-- ==== Sys2Proof/Word.lean ====
section
/-! DEFINITION. The word types of the block (00_scope R11, R12): bytes of the stream, 32-bit register
words, 11-bit raw channel values and 512-bit event records. -/

namespace Sys2Proof

/-- One byte of the stream (00_scope R11). -/
abbrev Byte := BitVec 8

/-- One word of the register window (20_memory R50). -/
abbrev Word := BitVec 32

/-- One raw channel value, 0..2047 (10_state R31). -/
abbrev Raw := BitVec 11

end Sys2Proof
end

