-- ==== Sys2Proof/Machine/Records.lean ====
section
/-! DEFINITION. The data types of the result register bank (10_state R31 to R39), of the event records
(30_encoding R97, R98) and of the errors (60_exceptions R220). Types only: every function over them stands
in a file a repair may mend. -/

namespace Sys2Proof

/-- The two protocol dialects (00_scope R3). -/
inductive Dialect where
  | crsf
  | sbus
  deriving DecidableEq, Repr, Inhabited

/-- The reasons of a FrameRejected event (30_encoding R98). -/
inductive Reason where
  | malformedLength
  | crcMismatch
  deriving DecidableEq, Repr, Inhabited

/-- The errors of the block's taxonomy (60_exceptions R220). None of them stops the block. -/
inductive ErrorKind where
  | malformedLength
  | crcMismatch
  | payloadTooShort
  | insufficientData
  | unknownFrameType
  | streamStarved
  deriving DecidableEq, Repr, Inhabited

/-- One event record, by its fields (30_encoding R97). The 512-bit word is computed from it. -/
inductive Event where
  | accepted (dialect : Dialect) (type : Byte) (plen : BitVec 6) (payload : Vector Byte 60)
  | rejected (dialect : Dialect) (reason : Reason)
  deriving DecidableEq, Repr, Inhabited

/-- LinkStatistics registers (10_state R32). `rssi1` and `rssi2` are two's complement. -/
structure LinkStat where
  rssi1 : BitVec 8
  rssi2 : BitVec 8
  lq : BitVec 8
  mode : BitVec 8
  deriving DecidableEq, Repr, Inhabited

/-- Attitude registers, two's complement (10_state R33). -/
structure Attitude where
  pitch : BitVec 16
  roll : BitVec 16
  yaw : BitVec 16
  deriving DecidableEq, Repr, Inhabited

/-- FlightMode registers (10_state R34). -/
structure FlightMode where
  len : BitVec 6
  str : Vector Byte 60
  deriving DecidableEq, Repr, Inhabited

/-- Battery registers (10_state R35). `voltage` and `current` are two's complement. -/
structure Battery where
  voltage : BitVec 16
  current : BitVec 16
  mah : BitVec 24
  percent : BitVec 8
  deriving DecidableEq, Repr, Inhabited

/-- GPS registers (10_state R36). All but `sats` are two's complement. -/
structure Gps where
  lat : BitVec 32
  lon : BitVec 32
  gspd : BitVec 16
  hdg : BitVec 16
  alt : BitVec 32
  sats : BitVec 8
  deriving DecidableEq, Repr, Inhabited

/-- The Vario register, two's complement (10_state R37). -/
structure Vario where
  vspd : BitVec 16
  deriving DecidableEq, Repr, Inhabited

/-- The sequence counters, one per result group (10_state R39). -/
structure SeqCounters where
  channels : Word
  linkStat : Word
  attitude : Word
  flightMode : Word
  battery : Word
  gps : Word
  vario : Word
  deriving DecidableEq, Repr, Inhabited

/-- The result register bank, the source's Session State less its counters (10_state R31 to R39). -/
structure Results where
  chRaw : Vector Raw 16
  linkStat : LinkStat
  attitude : Attitude
  flightMode : FlightMode
  battery : Battery
  gps : Gps
  vario : Vario
  recValid : BitVec 6
  seq : SeqCounters
  deriving DecidableEq, Repr, Inhabited

/-- The telemetry kinds, in the bit order of `REC_VALID` (10_state R38). -/
inductive Kind where
  | linkStat
  | attitude
  | flightMode
  | battery
  | gps
  | vario
  deriving DecidableEq, Repr, Inhabited

/-- The result groups, in the order of the `SEQ` words (20_memory R68). -/
inductive ResultGroup where
  | channels
  | telemetry (k : Kind)
  deriving DecidableEq, Repr, Inhabited

/-- The fields of an accepted S.Bus frame's event that SBUS_DECODE gives (30_encoding R97). -/
structure SbusEvent where
  type : Byte
  plen : BitVec 6
  payload : Vector Byte 60
  deriving DecidableEq, Repr, Inhabited

/-- The register writes of an accepted S.Bus frame (42_synchronizer R148): for each result group, the record
it commits, or none. A FlightMode record is given by its string. -/
structure SbusWrites where
  channels : Option (Vector Raw 16)
  linkStat : Option LinkStat
  attitude : Option Attitude
  flightMode : Option (List Byte)
  battery : Option Battery
  gps : Option Gps
  vario : Option Vario
  deriving DecidableEq, Repr, Inhabited

end Sys2Proof
end

