-- ==== Sys2Proof/Config.lean ====
section
/-! DEFINITION. What is fixed for one instance of the block: the constants and parameters of 00_scope R9,
and the open parameters SBUS_VALID and SBUS_DECODE as constants without a body (92_eei_decisions D18). -/

namespace Sys2Proof.Config

/-- `CRSF_SYNC` (00_scope R9). -/
def crsfSync : Byte := 0xC8#8

/-- `SBUS_SYNC` (00_scope R9). -/
def sbusSync : Byte := 0x0F#8

/-- `SBUS_FRAME_LEN` (00_scope R9). -/
def sbusFrameLen : Nat := 25

/-- `LEN_MIN` (00_scope R9). -/
def lenMin : Nat := 2

/-- `LEN_MAX` (00_scope R9). -/
def lenMax : Nat := 62

/-- `CRC_POLY` (00_scope R9). -/
def crcPoly : Byte := 0xD5#8

/-- `CRC_INIT` (00_scope R9). -/
def crcInit : Byte := 0x00#8

/-- `CH_BYTES` (00_scope R9). -/
def chBytes : Nat := 22

/-- `CH_W` (00_scope R9). -/
def chWidth : Nat := 11

/-- `US_BASE` (00_scope R9). -/
def usBase : Nat := 988

/-- `US_SPAN` (00_scope R9). -/
def usSpan : Nat := 1024

/-- `US_DIV` (00_scope R9; 41_unpacker R135 allows no other divisor). -/
def usDiv : Nat := 2047

/-- `BUF_CAP` (00_scope R9). -/
def bufCap : Nat := 64

/-- `CH_RESET_RAW` (00_scope R9). -/
def chResetRaw : Raw := 1024#11

/-- The maximum CRSF payload (00_scope R10). -/
def maxPayload : Nat := 60

/-- The instance parameters EV_DEPTH and SBUS_IMPL (00_scope R9). No operation changes them (10_state R44). -/
structure Params where
  evDepth : Nat
  sbusImpl : Bool
  deriving DecidableEq, Repr, Inhabited

/-- The default instance (00_scope R9). -/
def defaultParams : Params := ⟨8, false⟩

/-- `EV_DEPTH` is an integer 1..255 (00_scope R9). -/
def Params.wf (p : Params) : Bool := decide (1 ≤ p.evDepth ∧ p.evDepth ≤ 255)

/-- `SBUS_VALID`, the acceptance predicate on the 25 bytes of an S.Bus candidate: OPEN (92_eei_decisions D18,
log 4). It has no body, so nothing can be proved of its value. -/
opaque sbusValid : List Byte → Bool

/-- `SBUS_DECODE.event`, the event fields of an accepted S.Bus frame: OPEN (92_eei_decisions D18, log 5). -/
opaque sbusEvent : List Byte → SbusEvent

/-- `SBUS_DECODE.effect`, the register writes of an accepted S.Bus frame: OPEN (92_eei_decisions D18, log 6).
They may depend on the frame and on the registers the step starts from. -/
opaque sbusWrites : List Byte → Results → SbusWrites

end Sys2Proof.Config
end

