-- ==== Sys2Proof/Machine/Crc8.lean ====
section
/-! DEFINITION. The CRC8 engine (40_crc8 R120, R121). -/

namespace Sys2Proof.Machine

/-- One shift of CRC8_STEP: shift left, and XOR with the polynomial if bit 7 was set (40_crc8 R120). -/
def crcShift (a : Byte) : Byte :=
  if a.getLsbD 7 then (a <<< 1) ^^^ Config.crcPoly else a <<< 1

/-- `n` shifts one after another. -/
def crcShifts : Nat → Byte → Byte
  | 0, a => a
  | n + 1, a => crcShifts n (crcShift a)

/-- `CRC8_STEP(acc, b)` (40_crc8 R120). -/
def crc8Step (acc b : Byte) : Byte := crcShifts 8 (acc ^^^ b)

/-- `CRC8(s)`: the fold of CRC8_STEP from `CRC_INIT`, no final XOR (40_crc8 R121). -/
def crc8 (s : List Byte) : Byte := s.foldl crc8Step Config.crcInit

end Sys2Proof.Machine
end

