-- ==== Sys2Proof/Machine/Stream.lean ====
section
/-! DEFINITION. The stream buffer as the block's one memory (10_state R21, R22; 00_scope R13; 20_memory R51):
bytes are appended at the end, read by position and consumed at the front. -/

namespace Sys2Proof.Machine

/-- A byte sequence; index 0 is the oldest byte, the front (00_scope R13). -/
abbrev Memory := List Byte

/-- The canonical form of the stream buffer: at most `BUF_CAP` bytes (10_state R21). -/
def memoryWf (m : Memory) : Bool := decide (m.length ≤ Config.bufCap)

/-- `buf[i]`; the callers read only positions that exist (00_scope R13). -/
def byteAt (m : Memory) (i : Nat) : Byte := m.getD i 0

/-- `MemRead(addr, n)`, the sequence `buf[addr..addr+n-1]` (00_scope R13). -/
def memRead (m : Memory) (addr n : Nat) : List Byte := (m.drop addr).take n

/-- `MemWrite(end, 1, b)`, the append (10_state R22). -/
def memAppend (m : Memory) (b : Byte) : Memory := m ++ [b]

/-- `consume(n)`, which removes the first `n` bytes (00_scope R13). -/
def memConsume (m : Memory) (n : Nat) : Memory := m.drop n

end Sys2Proof.Machine
end

