-- ==== Sys2Proof/Syntax.lean ====
section
/-! DEFINITION. The operations of the block, one constructor per row of opcode_table.json in the table's
order, and the formats they are encoded in (30_encoding R80). -/

namespace Sys2Proof

/-- The operations of the block: eight decoders over the payload `frame[3..L]`, six engine steps, four
combinational primitives and five host transactions. -/
inductive Instr where
  /-- DEC_GPS, type `0x02` (43_decoders R177). -/
  | decGps (payload : List Byte)
  /-- DEC_VARIO, type `0x07` (43_decoders R178). -/
  | decVario (payload : List Byte)
  /-- DEC_BATTERY, type `0x08` (43_decoders R176). -/
  | decBattery (payload : List Byte)
  /-- DEC_LINKSTAT, type `0x14` (43_decoders R173). -/
  | decLinkstat (payload : List Byte)
  /-- DEC_CHANNELS, type `0x16` (43_decoders R172). -/
  | decChannels (payload : List Byte)
  /-- DEC_ATTITUDE, type `0x1E` (43_decoders R174). -/
  | decAttitude (payload : List Byte)
  /-- DEC_FLIGHTMODE, type `0x21` (43_decoders R175). -/
  | decFlightmode (payload : List Byte)
  /-- DEC_UNKNOWN, every other type byte (43_decoders R179). -/
  | decUnknown (type : Byte) (payload : List Byte)
  /-- DROP (42_synchronizer R144). -/
  | drop
  /-- LEN_REJECT (42_synchronizer R145). -/
  | lenReject
  /-- CRC_REJECT (42_synchronizer R146). -/
  | crcReject
  /-- EMIT (42_synchronizer R147). -/
  | emit
  /-- SBUS_ACCEPT (42_synchronizer R148). -/
  | sbusAccept
  /-- SBUS_REJECT (42_synchronizer R149). -/
  | sbusReject
  /-- CRC8_STEP (40_crc8 R120). -/
  | crc8Step (acc b : Byte)
  /-- CRC8 (40_crc8 R121). -/
  | crc8 (bytes : List Byte)
  /-- UNPACK (41_unpacker R130). -/
  | unpack (p : List Byte)
  /-- US_MAP (41_unpacker R134). -/
  | usMap (v : Raw)
  /-- PUSH (42_synchronizer R160). -/
  | push (b : Byte)
  /-- READ (44_host_interface R200). -/
  | read (index : BitVec 7)
  /-- WRITE (44_host_interface R201). -/
  | write (index : BitVec 7) (data : Word)
  /-- POP (44_host_interface R203). -/
  | pop
  /-- RESET (70_reset R240). -/
  | reset
  deriving DecidableEq, Repr

/-- The classes `classify` returns, the engine's opcodes (30_encoding R111). -/
inductive StepClass where
  | waitSync
  | notSync
  | waitLen
  | badLen
  | waitBody
  | crcOk
  | crcBad
  | sbusOk
  | sbusBad
  deriving DecidableEq, Repr

/-- The host transactions with their request fields (30_encoding R107). -/
inductive Transaction where
  | push (data : Byte)
  | read (index : BitVec 7)
  | write (index : BitVec 7) (data : Word)
  | pop
  | reset
  deriving DecidableEq, Repr

/-- The combinational primitives with their operands (40_crc8 and 41_unpacker: "Encoding: none"). -/
inductive Primitive where
  | crc8Step (acc b : Byte)
  | crc8 (bytes : List Byte)
  | unpack (p : List Byte)
  | usMap (v : Raw)
  deriving DecidableEq, Repr

/-- What the decoder reads, one constructor per "format" of opcode_table.json: the bytes of a CRSF frame, the
class that selects an engine step, the request fields of a transaction, the operands of a primitive. -/
inductive Code where
  | frame (bytes : List Byte)
  | step (c : StepClass)
  | transaction (t : Transaction)
  | primitive (p : Primitive)
  deriving DecidableEq, Repr

/-- Why a code stands for no operation (30_encoding R106, R111). -/
inductive DecodeError where
  /-- The first byte is not `0xC8` (30_encoding R81). -/
  | notSync
  /-- The length byte is below 2 or above 62 (30_encoding R83). -/
  | badLength
  /-- The CRC byte differs from the CRC of the covered bytes (30_encoding R84). -/
  | crcMismatch
  /-- Bytes of the frame are missing (30_encoding R110). -/
  | incomplete
  /-- A waiting class: no engine step is enabled (42_synchronizer R142). -/
  | quiescent
  deriving DecidableEq, Repr

end Sys2Proof
end

