-- ==== Sys2Proof/WellFormed.lean ====
section
/-! DEFINITION. Which operations have an encoding: a decoder's payload is at most 60 bytes (00_scope R10), and
DEC_UNKNOWN carries a type byte that selects no other decoder (30_encoding R86). -/

namespace Sys2Proof

/-- The seven type bytes that select a decoder of their own (30_encoding R86). -/
def knownTypes : List Byte := [0x02#8, 0x07#8, 0x08#8, 0x14#8, 0x16#8, 0x1E#8, 0x21#8]

/-- A payload fits a CRSF frame (00_scope R10). -/
def payloadFits (p : List Byte) : Bool := decide (p.length ≤ Config.maxPayload)

/-- The operation has an encoding. -/
def Instr.wf : Instr → Bool
  | .decGps p => payloadFits p
  | .decVario p => payloadFits p
  | .decBattery p => payloadFits p
  | .decLinkstat p => payloadFits p
  | .decChannels p => payloadFits p
  | .decAttitude p => payloadFits p
  | .decFlightmode p => payloadFits p
  | .decUnknown t p => payloadFits p && !knownTypes.contains t
  | .drop => true
  | .lenReject => true
  | .crcReject => true
  | .emit => true
  | .sbusAccept => true
  | .sbusReject => true
  | .crc8Step _ _ => true
  | .crc8 _ => true
  | .unpack _ => true
  | .usMap _ => true
  | .push _ => true
  | .read _ => true
  | .write _ _ => true
  | .pop => true
  | .reset => true

end Sys2Proof
end

