-- ==== Sys2Proof/Decode.lean ====
section
/-! DEFINITION. The decoder and the encoder: the classification of the stream buffer, which selects the engine's
step (42_synchronizer R140), the CRSF frame, whose type byte selects the decoder (30_encoding R81 to R86), the
transactions (30_encoding R107), and the words of opcode_table.json. -/

namespace Sys2Proof

open Machine (byteAt memRead crc8)

/-- `classify(buf, CTRL)` (42_synchronizer R140). `sbusOn` says that `0x0F` is in `SYNC_SET(CTRL)` (R141). -/
def classify (sbusOn : Bool) (buf : List Byte) : StepClass :=
  if buf.length = 0 then .waitSync
  else if byteAt buf 0 = Config.crsfSync then
    if buf.length < 2 then .waitLen
    else if (byteAt buf 1).toNat < Config.lenMin ∨ Config.lenMax < (byteAt buf 1).toNat then .badLen
    else if buf.length < (byteAt buf 1).toNat + 2 then .waitBody
    else if crc8 (memRead buf 1 (byteAt buf 1).toNat) = byteAt buf ((byteAt buf 1).toNat + 1) then .crcOk
    else .crcBad
  else if byteAt buf 0 = Config.sbusSync ∧ sbusOn = true then
    if buf.length < Config.sbusFrameLen then .waitBody
    else if Config.sbusValid (memRead buf 0 Config.sbusFrameLen) = true then .sbusOk
    else .sbusBad
  else .notSync

/-- The engine step a class selects; a waiting class selects none (30_encoding R111). -/
def decodeStep : StepClass → Except DecodeError Instr
  | .waitSync => .error .quiescent
  | .notSync => .ok .drop
  | .waitLen => .error .quiescent
  | .badLen => .ok .lenReject
  | .waitBody => .error .quiescent
  | .crcOk => .ok .emit
  | .crcBad => .ok .crcReject
  | .sbusOk => .ok .sbusAccept
  | .sbusBad => .ok .sbusReject

/-- The decoder the type byte selects, on the payload (30_encoding R86, 43_decoders R170). -/
def decodeType (t : Byte) (payload : List Byte) : Instr :=
  if t = 0x16#8 then .decChannels payload
  else if t = 0x14#8 then .decLinkstat payload
  else if t = 0x1E#8 then .decAttitude payload
  else if t = 0x21#8 then .decFlightmode payload
  else if t = 0x08#8 then .decBattery payload
  else if t = 0x02#8 then .decGps payload
  else if t = 0x07#8 then .decVario payload
  else .decUnknown t payload

/-- The CRSF frame at the front of the bytes, as the decoder it selects, and the bytes after it
(30_encoding R81 to R86, R110). -/
def decodeFrame (bytes : List Byte) : Except DecodeError (Instr × List Byte) :=
  match classify false bytes with
  | .crcOk =>
    .ok (decodeType (byteAt bytes 2) (memRead bytes 3 ((byteAt bytes 1).toNat - 2)),
      bytes.drop ((byteAt bytes 1).toNat + 2))
  | .crcBad => .error .crcMismatch
  | .badLen => .error .badLength
  | .waitSync => .error .incomplete
  | .waitLen => .error .incomplete
  | .waitBody => .error .incomplete
  | .notSync => .error .notSync
  | .sbusOk => .error .notSync
  | .sbusBad => .error .notSync

/-- The operation a transaction's request fields stand for (30_encoding R107). -/
def decodeTransaction : Transaction → Instr
  | .push b => .push b
  | .read i => .read i
  | .write i d => .write i d
  | .pop => .pop
  | .reset => .reset

/-- A primitive is handed its operands as they are ("Encoding: none", 40_crc8 R120, R121). -/
def decodePrimitive : Primitive → Instr
  | .crc8Step a b => .crc8Step a b
  | .crc8 s => .crc8 s
  | .unpack p => .unpack p
  | .usMap v => .usMap v

/-- The operation a code stands for, or the name of what is wrong with it. -/
def decode : Code → Except DecodeError Instr
  | .frame bytes => (decodeFrame bytes).map Prod.fst
  | .step c => decodeStep c
  | .transaction t => .ok (decodeTransaction t)
  | .primitive p => .ok (decodePrimitive p)

/-- The frame `C8 L t payload crc` with `L = len(payload) + 2` (30_encoding R81, R84; FRAME of R109). The rules give it
for at most 60 payload bytes. DESIGN CHOICE: for more, the length byte is `L` modulo 256 (log 27). -/
def frameBytes (t : Byte) (payload : List Byte) : List Byte :=
  let covered := BitVec.ofNat 8 (payload.length + 2) :: t :: payload
  Config.crsfSync :: (covered ++ [crc8 covered])

/-- The code of an operation, from the same tables: a decoder's is its whole frame (30_encoding R86), an engine
step's the class that selects it (R111), a transaction's its request fields (R107). -/
def encode : Instr → Code
  | .decGps p => .frame (frameBytes 0x02#8 p)
  | .decVario p => .frame (frameBytes 0x07#8 p)
  | .decBattery p => .frame (frameBytes 0x08#8 p)
  | .decLinkstat p => .frame (frameBytes 0x14#8 p)
  | .decChannels p => .frame (frameBytes 0x16#8 p)
  | .decAttitude p => .frame (frameBytes 0x1E#8 p)
  | .decFlightmode p => .frame (frameBytes 0x21#8 p)
  | .decUnknown t p => .frame (frameBytes t p)
  | .drop => .step .notSync
  | .lenReject => .step .badLen
  | .crcReject => .step .crcBad
  | .emit => .step .crcOk
  | .sbusAccept => .step .sbusOk
  | .sbusReject => .step .sbusBad
  | .crc8Step a b => .primitive (.crc8Step a b)
  | .crc8 s => .primitive (.crc8 s)
  | .unpack p => .primitive (.unpack p)
  | .usMap v => .primitive (.usMap v)
  | .push b => .transaction (.push b)
  | .read i => .transaction (.read i)
  | .write i d => .transaction (.write i d)
  | .pop => .transaction .pop
  | .reset => .transaction .reset

/-- The `n` lowest bytes of a number, the first the least significant (the numbering of opcode_table.json). -/
def bytesOfNat : Nat → Nat → List Byte
  | 0, _ => []
  | n + 1, w => BitVec.ofNat 8 w :: bytesOfNat n (w / 256)

/-- A table word selects an engine step when its first byte is a sync byte, else a decoder (log 13). -/
def tableSelectsStep (w : Nat) : Bool :=
  BitVec.ofNat 8 w = Config.crsfSync || BitVec.ofNat 8 w = Config.sbusSync

/-- The stream bytes a word of opcode_table.json stands for, every bit above `nbits` 0. The rows of the format
"engine step, selector buf[0]" number their bits from `buf[0]`, the rows of the format "CRSF frame, type byte
frame[2]" from `frame[2]`: there the bytes after the type byte are the payload, and the sync byte, the length
byte of the longest frame and the CRC byte stand around them (log 13). -/
def tableBytes (nbits w : Nat) : List Byte :=
  if tableSelectsStep (w % 2 ^ nbits) then bytesOfNat Config.bufCap (w % 2 ^ nbits)
  else frameBytes (BitVec.ofNat 8 (w % 2 ^ nbits)) (bytesOfNat Config.maxPayload (w % 2 ^ nbits / 256))

/-- The operation the decoder reads from a word of opcode_table.json, S.Bus enabled. -/
def decodeTableWord (nbits w : Nat) : Option Instr :=
  (decode (if tableSelectsStep (w % 2 ^ nbits) then .step (classify true (tableBytes nbits w))
    else .frame (tableBytes nbits w))).toOption

end Sys2Proof
end

