-- ==== Sys2Proof/Machine/Operands.lean ====
section
/-! DEFINITION. The operand forms of the decoders: the fields of a payload, at the frame offsets of 30_encoding R88
to R94, offset 0 the sync byte (90_conflicts C1), and the FlightMode string (43_decoders R175). -/

namespace Sys2Proof.Machine

/-- `frame[o]` for a payload offset `o` from 3 up: payload byte `o - 3` (30_encoding §5). A decoder reads an
offset only after its length check, so the byte exists. -/
def frameByte (p : List Byte) (o : Nat) : Byte := p.getD (o - 3) 0

/-- `be16(o)`: the byte at the lower offset is the more significant (00_scope R14). -/
def be16 (p : List Byte) (o : Nat) : BitVec 16 := frameByte p o ++ frameByte p (o + 1)

/-- `be32(o)` (00_scope R14). -/
def be32 (p : List Byte) (o : Nat) : BitVec 32 := be16 p o ++ be16 p (o + 2)

/-- The battery's mAh packing, with `<< 7` and OR (30_encoding R91, 43_decoders R176, 90_conflicts C9). -/
def mahField (p : List Byte) : BitVec 24 :=
  ((frameByte p 7).setWidth 24 <<< 16) ||| ((frameByte p 8).setWidth 24 <<< 7) ||| (frameByte p 9).setWidth 24

/-- `s16(15) - 1000` as a 32-bit two's-complement word (43_decoders R177, 10_state R36). -/
def altField (p : List Byte) : BitVec 32 := (be16 p 15).signExtend 32 - 1000#32

/-- The six bytes that FlightMode trimming removes (43_decoders R175). -/
def isSpaceByte (b : Byte) : Bool :=
  b == 0x09#8 || b == 0x0A#8 || b == 0x0B#8 || b == 0x0C#8 || b == 0x0D#8 || b == 0x20#8

/-- The bytes before the first `0x00`, or all of them (43_decoders R175). -/
def untilNul (r : List Byte) : List Byte := r.takeWhile (fun b => b != 0#8)

/-- Trim the space bytes at both ends (43_decoders R175). -/
def trimSpaces (s : List Byte) : List Byte :=
  ((s.dropWhile isSpaceByte).reverse.dropWhile isSpaceByte).reverse

/-- The FlightMode string of a payload (43_decoders R175). -/
def flightModeString (p : List Byte) : List Byte := trimSpaces (untilNul p)

/-- Sixty bytes: the sequence, then `0x00` (43_decoders R175, 30_encoding R97). -/
def padTo60 (s : List Byte) : Vector Byte 60 := Vector.ofFn fun i => s.getD i.val 0

/-- The minimum payload length of a type byte; 0 for every type that selects no known decoder
(30_encoding R96, R86). -/
def minPayload (t : Byte) : Nat :=
  if t = 0x02#8 then 15
  else if t = 0x07#8 then 2
  else if t = 0x08#8 then 8
  else if t = 0x14#8 then 6
  else if t = 0x16#8 then 22
  else if t = 0x1E#8 then 6
  else if t = 0x21#8 then 1
  else 0

end Sys2Proof.Machine
end

