-- ==== Sys2Proof/Machine/State.lean ====
section
/-! DEFINITION. The state of the block (10_state R20, R41), the model's own fields beside it, and the reasons a
step can stop: the block has none (00_scope R16). -/

namespace Sys2Proof.Machine

/-- The reasons a step faults: none, since no operation of the block faults or halts (00_scope R16,
60_exceptions R227). Nothing raises one, so the type is empty. -/
inductive Fault where
  deriving DecidableEq, Repr

/-- The reasons a step is refused. -/
inductive Refusal where
  /-- An operation of opcode_table.json that has no meaning yet. No arm of `exec` raises it; raising it
  would be safe. -/
  | notModelled (mnemonic : String)
  deriving DecidableEq, Repr

/-- The four agents that act on the block (00_scope R18). -/
inductive Agent where
  | byteSource
  | engine
  | eventConsumer
  | host
  deriving DecidableEq, Repr, Inhabited

/-- A request the host can make (00_scope R18: READ, WRITE and RESET; 30_encoding R107). -/
inductive Request where
  | read (index : BitVec 7)
  | write (index : BitVec 7) (data : Word)
  | reset
  deriving DecidableEq, Repr, Inhabited

/-- What an operation answers: the response of a transaction (30_encoding R107), the result of a primitive
(40_crc8, 41_unpacker), or the error a primitive signals in place of a result (41_unpacker R133). -/
inductive Response where
  | data (w : Word)
  | event (bits : BitVec 512)
  | checksum (c : Byte)
  | lanes (v : Vector Raw 16)
  | micros (u : Nat)
  | error (e : ErrorKind)
  deriving DecidableEq, Repr

/-- The fields of `CTRL` that have storage; bits 31:2 read 0 and ignore writes (10_state R29). -/
structure Ctrl where
  evEn : Bool
  sbusEn : Bool
  deriving DecidableEq, Repr, Inhabited

/-- The state: the elements of 10_state R20 (`buf` to `results`), and the model's own fields (`params`, log 3;
`sched`, `source`, `requests`, log 1; `log`, log 2). -/
structure State where
  /-- The instance parameters; no operation changes them (10_state R44). -/
  params : Config.Params
  /-- The stream buffer, front first (10_state R21). -/
  buf : List Byte
  /-- The event FIFO, oldest first (10_state R28). -/
  evq : List Event
  /-- The control register (10_state R29). -/
  ctrl : Ctrl
  /-- `FRAMES_VALIDATED` (10_state R30). -/
  framesValidated : Word
  /-- `FRAMES_REJECTED` (10_state R30). -/
  framesRejected : Word
  /-- `BYTES_CONSUMED` (10_state R30). -/
  bytesConsumed : Word
  /-- `PAYLOAD_TOO_SHORT` (10_state R30). -/
  payloadTooShort : Word
  /-- The result register bank (10_state R31 to R39). -/
  results : Results
  /-- MODEL: the agents whose turns come next; when it is empty the turn is the engine's (log 1). -/
  sched : List Agent
  /-- MODEL: the bytes the byte source has still to push, in order (log 1). -/
  source : List Byte
  /-- MODEL: the requests the host has still to make, in order (log 1). -/
  requests : List Request
  /-- MODEL: the responses answered so far, oldest first (log 2). -/
  log : List Response
  deriving DecidableEq, Repr

/-- The sequence counters at reset (10_state R41). -/
def resetSeq : SeqCounters := ⟨0, 0, 0, 0, 0, 0, 0⟩

/-- The result register bank at reset (10_state R41). -/
def resetResults : Results where
  chRaw := Vector.replicate 16 Config.chResetRaw
  linkStat := ⟨0, 0, 0, 0⟩
  attitude := ⟨0, 0, 0⟩
  flightMode := ⟨0, Vector.replicate 60 0⟩
  battery := ⟨0, 0, 0, 0⟩
  gps := ⟨0, 0, 0, 0, 0, 0⟩
  vario := ⟨0⟩
  recValid := 0
  seq := resetSeq

/-- The machine right after reset: the values of 10_state R41, the default parameters of 00_scope R9, nothing
scheduled and nothing answered yet. -/
def State.reset : State where
  params := Config.defaultParams
  buf := []
  evq := []
  ctrl := ⟨true, false⟩
  framesValidated := 0
  framesRejected := 0
  bytesConsumed := 0
  payloadTooShort := 0
  results := resetResults
  sched := []
  source := []
  requests := []
  log := []

end Sys2Proof.Machine
end

