-- ==== Sys2Proof/Machine/Events.lean ====
section
/-! DEFINITION. Event records and their 512-bit word (30_encoding R97, R98; 20_memory R55). -/

namespace Sys2Proof.Machine

/-- Bytes packed into one number, the first byte in the least significant position (20_memory R55). -/
def packBytes : List Byte → Nat
  | [] => 0
  | b :: rest => b.toNat + 256 * packBytes rest

/-- `DIALECT`, 0 for CRSF and 1 for S.Bus (30_encoding R97). -/
def dialectBit : Dialect → BitVec 1
  | .crsf => 0#1
  | .sbus => 1#1

/-- `REASON` of a FrameRejected record (30_encoding R98). -/
def reasonBits : Reason → BitVec 2
  | .malformedLength => 1#2
  | .crcMismatch => 2#2

/-- The 512-bit record (30_encoding R97), its fields from bit 511 down to bit 0. -/
def eventBits : Event → BitVec 512
  | .accepted d t n p =>
    BitVec.ofNat 480 (packBytes p.toList) ++ 0#10 ++ n ++ t ++ 0#4 ++ 0#2 ++ dialectBit d ++ 0#1
  | .rejected d r => 0#480 ++ 0#10 ++ 0#6 ++ 0#8 ++ 0#4 ++ reasonBits r ++ dialectBit d ++ 1#1

/-- The FrameAccepted event of a CRSF frame (42_synchronizer R147, 30_encoding R97). -/
def crsfAccepted (t : Byte) (payload : List Byte) : Event :=
  .accepted .crsf t (BitVec.ofNat 6 payload.length) (padTo60 payload)

/-- The FrameAccepted event of an S.Bus frame: `KIND = 0`, `DIALECT = 1`, the other fields from SBUS_DECODE
(42_synchronizer R148). -/
def sbusAccepted (frame : List Byte) : Event :=
  .accepted .sbus (Config.sbusEvent frame).type (Config.sbusEvent frame).plen (Config.sbusEvent frame).payload

end Sys2Proof.Machine
end

