-- ==== Sys2Proof/Machine/Unpack.lean ====
section
/-! DEFINITION. The bit-field unpacker, its inverse PACK and the microsecond mapping (41_unpacker R130 to R136). -/

namespace Sys2Proof.Machine

/-- Stream bit `i`: bit `i % 8` of byte `i / 8` (41_unpacker R131). -/
def streamBit (p : List Byte) (i : Nat) : Bool := (p.getD (i / 8) 0).getLsbD (i % 8)

/-- Channel field `k`: bit `j` is stream bit `11k + j`, ORed in bit by bit (41_unpacker R130). -/
def lane (p : List Byte) (k : Nat) : Raw :=
  (List.range Config.chWidth).foldl
    (fun v j => v ||| ((BitVec.ofBool (streamBit p (Config.chWidth * k + j))).setWidth 11 <<< j)) 0

/-- `UNPACK(p)`: the sixteen fields, or InsufficientData for fewer than 22 bytes (41_unpacker R130, R133). -/
def unpack (p : List Byte) : Except ErrorKind (Vector Raw 16) :=
  if p.length < Config.chBytes then .error .insufficientData
  else .ok (Vector.ofFn fun k => lane p k.val)

/-- `US_MAP(v) = 988 + (v * 1024) // 2047` (41_unpacker R134, R135). -/
def usMap (v : Raw) : Nat := Config.usBase + v.toNat * Config.usSpan / Config.usDiv

/-- Bit `i` of the packed stream of sixteen fields: bit `i % 11` of field `i / 11` (41_unpacker R136). -/
def packBit (v : Vector Raw 16) (i : Nat) : Bool := (v.toList.getD (i / 11) 0).getLsbD (i % 11)

/-- Byte `n` of `PACK(v)` (41_unpacker R136). -/
def packByte (v : Vector Raw 16) (n : Nat) : Byte :=
  (List.range 8).foldl
    (fun a j => a ||| ((BitVec.ofBool (packBit v (8 * n + j))).setWidth 8 <<< j)) 0

/-- `PACK(v)`: the 22 bytes whose UNPACK is `v`. Not an operation of the block; the script statement CHANNELS
uses it (41_unpacker R136, 30_encoding R109). -/
def pack (v : Vector Raw 16) : List Byte := (List.range Config.chBytes).map (packByte v)

end Sys2Proof.Machine
end

