-- ==== Sys2Proof/Machine/Ops.lean ====
section
/-! DEFINITION. The operations every step is built from: the class of the buffer and the hold, the counters, the event
FIFO, consuming, rejecting a candidate, and committing a record. The block takes no exception (60_exceptions R227):
the one thing that stands in for it is `rejectCandidate`, the local recovery of R221 and R222. -/

namespace Sys2Proof.Machine

/-- `sat_add(c, n)` (00_scope R15). -/
def satAdd (c : Word) (n : Nat) : Word := BitVec.ofNat 32 (min (c.toNat + n) (2 ^ 32 - 1))

/-- `sat_inc(c)` (00_scope R15). -/
def satInc (c : Word) : Word := satAdd c 1

/-- `0x0F` is in `SYNC_SET(CTRL)` (42_synchronizer R141). -/
def sbusOn (s : State) : Bool := s.params.sbusImpl && s.ctrl.sbusEn

/-- The class of the state's buffer (42_synchronizer R140). -/
def classOf (s : State) : StepClass := classify (sbusOn s) s.buf

/-- The waiting classes (42_synchronizer R142). -/
def isWaiting : StepClass → Bool
  | .waitSync => true
  | .waitLen => true
  | .waitBody => true
  | .notSync => false
  | .badLen => false
  | .crcOk => false
  | .crcBad => false
  | .sbusOk => false
  | .sbusBad => false

/-- The engine is quiescent (42_synchronizer R142). -/
def quiescent (s : State) : Bool := isWaiting (classOf s)

/-- `in_ready` (42_synchronizer R161). -/
def inReady (s : State) : Bool := quiescent s

/-- There is no room for an event: `EV_EN` is 1 and `evq` is full (42_synchronizer R150; log 8). -/
def evqBlocks (s : State) : Bool := s.ctrl.evEn && !decide (s.evq.length < s.params.evDepth)

/-- The class selects a step that emits (42_synchronizer R150). -/
def emits : StepClass → Bool
  | .badLen => true
  | .crcOk => true
  | .crcBad => true
  | .sbusOk => true
  | .sbusBad => true
  | .waitSync => false
  | .waitLen => false
  | .waitBody => false
  | .notSync => false

/-- The engine is held (42_synchronizer R142, R150). -/
def held (s : State) : Bool := emits (classOf s) && evqBlocks s

/-- An engine step of class `c`: its effect when the class is selected and not held, else nothing changes
(00_scope R16, 42_synchronizer R150). -/
def whenSelected (c : StepClass) (s : State) (effect : State) : State :=
  if classOf s = c ∧ held s = false then effect else s

/-- `emit(e)` (20_memory R58). -/
def emitEvent (e : Event) (s : State) : State :=
  if s.ctrl.evEn then { s with evq := s.evq ++ [e] } else s

/-- `consume(n)` with the count of the bytes consumed (00_scope R13, 10_state R30). -/
def consumeBytes (n : Nat) (s : State) : State :=
  { s with buf := memConsume s.buf n, bytesConsumed := satAdd s.bytesConsumed n }

/-- One more validated frame (10_state R30). -/
def countValidated (s : State) : State := { s with framesValidated := satInc s.framesValidated }

/-- One more rejected candidate (10_state R30). -/
def countRejected (s : State) : State := { s with framesRejected := satInc s.framesRejected }

/-- One more short payload (10_state R30). -/
def countTooShort (s : State) : State := { s with payloadTooShort := satInc s.payloadTooShort }

/-- Reject the candidate: count it, report it, consume its sync byte only (42_synchronizer R145, R146, R149). -/
def rejectCandidate (d : Dialect) (r : Reason) (s : State) : State :=
  consumeBytes 1 (emitEvent (.rejected d r) (countRejected s))

/-- The place of a kind's bit in `REC_VALID` (10_state R38). -/
def kindBit : Kind → Nat
  | .linkStat => 0
  | .attitude => 1
  | .flightMode => 2
  | .battery => 3
  | .gps => 4
  | .vario => 5

/-- The sequence counter of a group (10_state R39). -/
def seqOf (g : ResultGroup) (q : SeqCounters) : Word :=
  match g with
  | .channels => q.channels
  | .telemetry .linkStat => q.linkStat
  | .telemetry .attitude => q.attitude
  | .telemetry .flightMode => q.flightMode
  | .telemetry .battery => q.battery
  | .telemetry .gps => q.gps
  | .telemetry .vario => q.vario

/-- The sequence counter of a group gains 1, modulo `2^32` (10_state R39, 43_decoders R180). -/
def bumpSeq (g : ResultGroup) (q : SeqCounters) : SeqCounters :=
  match g with
  | .channels => { q with channels := q.channels + 1 }
  | .telemetry .linkStat => { q with linkStat := q.linkStat + 1 }
  | .telemetry .attitude => { q with attitude := q.attitude + 1 }
  | .telemetry .flightMode => { q with flightMode := q.flightMode + 1 }
  | .telemetry .battery => { q with battery := q.battery + 1 }
  | .telemetry .gps => { q with gps := q.gps + 1 }
  | .telemetry .vario => { q with vario := q.vario + 1 }

/-- The bits of `REC_VALID` a commit of the group sets: none for the Channel Set (10_state R38). -/
def validMask : ResultGroup → BitVec 6
  | .channels => 0
  | .telemetry k => 1#6 <<< kindBit k

/-- The commit of a group (43_decoders R180). -/
def commit (g : ResultGroup) (r : Results) : Results :=
  { r with recValid := r.recValid ||| validMask g, seq := bumpSeq g r.seq }

/-- Replace the Channel Set and commit it (43_decoders R172, R180). -/
def commitChannels (v : Vector Raw 16) (r : Results) : Results := commit .channels { r with chRaw := v }

/-- Replace the LinkStatistics record and commit it (43_decoders R173, R180). -/
def commitLinkStat (x : LinkStat) (r : Results) : Results := commit (.telemetry .linkStat) { r with linkStat := x }

/-- Replace the Attitude record and commit it (43_decoders R174, R180). -/
def commitAttitude (x : Attitude) (r : Results) : Results := commit (.telemetry .attitude) { r with attitude := x }

/-- Replace the FlightMode record by a string of at most 60 bytes and commit it (43_decoders R175, R180). -/
def commitFlightMode (str : List Byte) (r : Results) : Results :=
  commit (.telemetry .flightMode)
    { r with flightMode := ⟨BitVec.ofNat 6 (min str.length 60), padTo60 str⟩ }

/-- Replace the Battery record and commit it (43_decoders R176, R180). -/
def commitBattery (x : Battery) (r : Results) : Results := commit (.telemetry .battery) { r with battery := x }

/-- Replace the GPS record and commit it (43_decoders R177, R180). -/
def commitGps (x : Gps) (r : Results) : Results := commit (.telemetry .gps) { r with gps := x }

/-- Replace the Vario record and commit it (43_decoders R178, R180). -/
def commitVario (x : Vario) (r : Results) : Results := commit (.telemetry .vario) { r with vario := x }

/-- Commit a record if there is one. -/
def commitIf {α : Type} (commitOne : α → Results → Results) (x : Option α) (r : Results) : Results :=
  match x with
  | none => r
  | some a => commitOne a r

/-- The register effect of an accepted S.Bus frame: the groups SBUS_DECODE writes, each committed
(42_synchronizer R148; log 6). -/
def applySbusWrites (w : SbusWrites) (r : Results) : Results :=
  commitIf commitVario w.vario
    (commitIf commitGps w.gps
      (commitIf commitBattery w.battery
        (commitIf commitFlightMode w.flightMode
          (commitIf commitAttitude w.attitude
            (commitIf commitLinkStat w.linkStat
              (commitIf commitChannels w.channels r))))))

/-- The length check of a known decoder, and its writes when the payload is long enough (43_decoders R171). -/
def lengthChecked (minLen : Nat) (payload : List Byte) (write : Results → Results) (s : State) : State :=
  if payload.length < minLen then countTooShort s else { s with results := write s.results }

/-- Add one response to the log (log 2). -/
def answer (r : Response) (s : State) : State := { s with log := s.log ++ [r] }

end Sys2Proof.Machine
end

