-- ==== Sys2Proof/Machine/Decoders.lean ====
section
/-! DEFINITION. The packet decoders (43_decoders R172 to R179) and the demultiplexer (R170). Each decoder has its register
writes, its effect on the state with the length check of R171, and its meaning as an operation on a payload
(log 10). -/

namespace Sys2Proof.Machine

/-- The channel registers DEC_CHANNELS writes (43_decoders R172). UNPACK answers values for every payload that
passed the length check (41_unpacker R133). -/
def writeChannels (p : List Byte) (r : Results) : Results :=
  match unpack (p.take Config.chBytes) with
  | .ok v => commitChannels v r
  | .error _ => r

/-- The registers DEC_LINKSTAT writes (43_decoders R173). -/
def writeLinkStat (p : List Byte) : Results → Results :=
  commitLinkStat ⟨frameByte p 3, frameByte p 4, frameByte p 5, frameByte p 8⟩

/-- The registers DEC_ATTITUDE writes (43_decoders R174). -/
def writeAttitude (p : List Byte) : Results → Results :=
  commitAttitude ⟨be16 p 3, be16 p 5, be16 p 7⟩

/-- The registers DEC_FLIGHTMODE writes (43_decoders R175). -/
def writeFlightMode (p : List Byte) : Results → Results := commitFlightMode (flightModeString p)

/-- The registers DEC_BATTERY writes (43_decoders R176). -/
def writeBattery (p : List Byte) : Results → Results :=
  commitBattery ⟨be16 p 3, be16 p 5, mahField p, frameByte p 10⟩

/-- The registers DEC_GPS writes (43_decoders R177). -/
def writeGps (p : List Byte) : Results → Results :=
  commitGps ⟨be32 p 3, be32 p 7, be16 p 11, be16 p 13, altField p, frameByte p 17⟩

/-- The register DEC_VARIO writes (43_decoders R178). -/
def writeVario (p : List Byte) : Results → Results := commitVario ⟨be16 p 3⟩

/-- DEC_CHANNELS (43_decoders R172). -/
def channelsEffect (p : List Byte) (s : State) : State :=
  lengthChecked (minPayload 0x16#8) p (writeChannels p) s

/-- DEC_LINKSTAT (43_decoders R173). -/
def linkStatEffect (p : List Byte) (s : State) : State :=
  lengthChecked (minPayload 0x14#8) p (writeLinkStat p) s

/-- DEC_ATTITUDE (43_decoders R174). -/
def attitudeEffect (p : List Byte) (s : State) : State :=
  lengthChecked (minPayload 0x1E#8) p (writeAttitude p) s

/-- DEC_FLIGHTMODE (43_decoders R175). -/
def flightModeEffect (p : List Byte) (s : State) : State :=
  lengthChecked (minPayload 0x21#8) p (writeFlightMode p) s

/-- DEC_BATTERY (43_decoders R176). -/
def batteryEffect (p : List Byte) (s : State) : State :=
  lengthChecked (minPayload 0x08#8) p (writeBattery p) s

/-- DEC_GPS (43_decoders R177). -/
def gpsEffect (p : List Byte) (s : State) : State :=
  lengthChecked (minPayload 0x02#8) p (writeGps p) s

/-- DEC_VARIO (43_decoders R178). -/
def varioEffect (p : List Byte) (s : State) : State :=
  lengthChecked (minPayload 0x07#8) p (writeVario p) s

/-- DEC_UNKNOWN: no register write (43_decoders R179). -/
def unknownEffect (s : State) : State := s

/-- `DECODE(t, frame, L)` (43_decoders R170). -/
def decodeEffect (t : Byte) (p : List Byte) (s : State) : State :=
  if t = 0x16#8 then channelsEffect p s
  else if t = 0x14#8 then linkStatEffect p s
  else if t = 0x1E#8 then attitudeEffect p s
  else if t = 0x21#8 then flightModeEffect p s
  else if t = 0x08#8 then batteryEffect p s
  else if t = 0x02#8 then gpsEffect p s
  else if t = 0x07#8 then varioEffect p s
  else unknownEffect s

/-- DEC_GPS as an operation. -/
def execDecGps (p : List Byte) (s : State) : Host.Outcome State Fault Refusal := .next (gpsEffect p s)

/-- DEC_VARIO as an operation. -/
def execDecVario (p : List Byte) (s : State) : Host.Outcome State Fault Refusal := .next (varioEffect p s)

/-- DEC_BATTERY as an operation. -/
def execDecBattery (p : List Byte) (s : State) : Host.Outcome State Fault Refusal := .next (batteryEffect p s)

/-- DEC_LINKSTAT as an operation. -/
def execDecLinkstat (p : List Byte) (s : State) : Host.Outcome State Fault Refusal := .next (linkStatEffect p s)

/-- DEC_CHANNELS as an operation. -/
def execDecChannels (p : List Byte) (s : State) : Host.Outcome State Fault Refusal := .next (channelsEffect p s)

/-- DEC_ATTITUDE as an operation. -/
def execDecAttitude (p : List Byte) (s : State) : Host.Outcome State Fault Refusal := .next (attitudeEffect p s)

/-- DEC_FLIGHTMODE as an operation. -/
def execDecFlightmode (p : List Byte) (s : State) : Host.Outcome State Fault Refusal :=
  .next (flightModeEffect p s)

/-- DEC_UNKNOWN as an operation: neither the type byte nor the payload has an effect. -/
def execDecUnknown (_t : Byte) (_p : List Byte) (s : State) : Host.Outcome State Fault Refusal :=
  .next (unknownEffect s)

end Sys2Proof.Machine
end

