-- ==== Sys2Proof/Machine/Engine.lean ====
section
/-! DEFINITION. The engine's steps (42_synchronizer R144 to R149). A step that is not selected, or is held, changes nothing
(00_scope R16, 42_synchronizer R150; log 7). -/

namespace Sys2Proof.Machine

/-- The length byte `L` of the candidate (10_state R27). -/
def candidateLength (s : State) : Nat := (byteAt s.buf 1).toNat

/-- The type byte `frame[2]` of the candidate (30_encoding R81). -/
def candidateType (s : State) : Byte := byteAt s.buf 2

/-- The payload `frame[3..L]` of the candidate (30_encoding R81). -/
def candidatePayload (s : State) : List Byte := memRead s.buf 3 (candidateLength s - 2)

/-- The 25 bytes of an S.Bus candidate (30_encoding R85). -/
def sbusFrame (s : State) : List Byte := memRead s.buf 0 Config.sbusFrameLen

/-- What EMIT does: count, report, decode, consume (42_synchronizer R147). -/
def acceptFrame (s : State) : State :=
  consumeBytes (candidateLength s + 2)
    (decodeEffect (candidateType s) (candidatePayload s)
      (emitEvent (crsfAccepted (candidateType s) (candidatePayload s)) (countValidated s)))

/-- What SBUS_ACCEPT does: count, report, write what SBUS_DECODE says, consume (42_synchronizer R148). -/
def acceptSbus (s : State) : State :=
  let s1 := emitEvent (sbusAccepted (sbusFrame s)) (countValidated s)
  consumeBytes Config.sbusFrameLen
    { s1 with results := applySbusWrites (Config.sbusWrites (sbusFrame s) s1.results) s1.results }

/-- DROP (42_synchronizer R144). -/
def execDrop (s : State) : Host.Outcome State Fault Refusal :=
  .next (whenSelected .notSync s (consumeBytes 1 s))

/-- LEN_REJECT (42_synchronizer R145). -/
def execLenReject (s : State) : Host.Outcome State Fault Refusal :=
  .next (whenSelected .badLen s (rejectCandidate .crsf .malformedLength s))

/-- CRC_REJECT (42_synchronizer R146). -/
def execCrcReject (s : State) : Host.Outcome State Fault Refusal :=
  .next (whenSelected .crcBad s (rejectCandidate .crsf .crcMismatch s))

/-- EMIT (42_synchronizer R147). -/
def execEmit (s : State) : Host.Outcome State Fault Refusal :=
  .next (whenSelected .crcOk s (acceptFrame s))

/-- SBUS_ACCEPT (42_synchronizer R148). -/
def execSbusAccept (s : State) : Host.Outcome State Fault Refusal :=
  .next (whenSelected .sbusOk s (acceptSbus s))

/-- SBUS_REJECT (42_synchronizer R149): the mismatch counts as MalformedLength. -/
def execSbusReject (s : State) : Host.Outcome State Fault Refusal :=
  .next (whenSelected .sbusBad s (rejectCandidate .sbus .malformedLength s))

end Sys2Proof.Machine
end

