-- ==== Sys2Proof/Machine/Primitives.lean ====
section
/-! DEFINITION. The combinational primitives as operations: each answers its result and changes nothing of the block
(40_crc8 R120, R121; 41_unpacker R130, R133, R134; log 11). -/

namespace Sys2Proof.Machine

/-- The answer of UNPACK: sixteen values, or InsufficientData and no values (41_unpacker R133). -/
def unpackResponse (p : List Byte) : Response :=
  match unpack p with
  | .ok v => .lanes v
  | .error e => .error e

/-- CRC8_STEP (40_crc8 R120). -/
def execCrc8Step (acc b : Byte) (s : State) : Host.Outcome State Fault Refusal :=
  .next (answer (.checksum (crc8Step acc b)) s)

/-- CRC8 (40_crc8 R121). -/
def execCrc8 (bytes : List Byte) (s : State) : Host.Outcome State Fault Refusal :=
  .next (answer (.checksum (crc8 bytes)) s)

/-- UNPACK (41_unpacker R130, R133). -/
def execUnpack (p : List Byte) (s : State) : Host.Outcome State Fault Refusal :=
  .next (answer (unpackResponse p) s)

/-- US_MAP (41_unpacker R134). -/
def execUsMap (v : Raw) (s : State) : Host.Outcome State Fault Refusal :=
  .next (answer (.micros (usMap v)) s)

end Sys2Proof.Machine
end

