-- ==== Sys2Proof/Machine/Flags.lean ====
section
/-! DEFINITION. The derived words: `STATE`, `STATUS` and `CTRL` (10_state R26, R29, R42; 30_encoding R99, R100). The block
has no other flags (10_state R43). -/

namespace Sys2Proof.Machine

/-- The `STATE` of a class (42_synchronizer R143). -/
def stateCode : StepClass → BitVec 3
  | .waitSync => 0#3
  | .notSync => 0#3
  | .waitLen => 1#3
  | .badLen => 1#3
  | .waitBody => 2#3
  | .crcOk => 3#3
  | .sbusOk => 3#3
  | .crcBad => 4#3
  | .sbusBad => 4#3

/-- `CAND_DIALECT` (10_state R42): `buf[0]` is `0x0F` and S.Bus is enabled. -/
def candDialect (s : State) : Bool := decide (s.buf.head? = some Config.sbusSync) && sbusOn s

/-- `EV_FULL` (10_state R42). -/
def evFull (s : State) : Bool := s.evq.length == s.params.evDepth

/-- `CAND_LEN` (10_state R42): `buf[1]` when `buf[0]` is `0xC8` and it is present, else 0. -/
def candLen (s : State) : Byte :=
  if s.buf.head? = some Config.crsfSync ∧ 2 ≤ s.buf.length then byteAt s.buf 1 else 0

/-- The word `STATUS`, its fields from bit 31 down to bit 0 (30_encoding R100). -/
def statusWord (s : State) : Word :=
  candLen s ++ BitVec.ofNat 8 s.evq.length ++ 0#1 ++ BitVec.ofNat 7 s.buf.length ++ 0#2 ++
    BitVec.ofBool (evFull s) ++ BitVec.ofBool (candDialect s) ++ BitVec.ofBool (quiescent s) ++
    stateCode (classOf s)

/-- The word `CTRL`: bit 1 reads 0 when S.Bus is not implemented (30_encoding R99). -/
def ctrlWord (s : State) : Word :=
  0#30 ++ BitVec.ofBool (sbusOn s) ++ BitVec.ofBool s.ctrl.evEn

end Sys2Proof.Machine
end

