-- ==== Sys2Proof/Machine/Window.lean ====
section
/-! DEFINITION. The register window as READ sees it (20_memory R68, R69; 44_host_interface R200). -/

namespace Sys2Proof.Machine

/-- The word `CH[k]`: `RAW` in bits 10:0 and `US` in bits 26:16 (30_encoding R103). -/
def channelWord (raw : Raw) : Word := (BitVec.ofNat 32 (usMap raw) <<< 16) ||| raw.setWidth 32

/-- The word `FM_STR[j]`: string bytes `4j` to `4j + 3`, the first least significant (30_encoding R105). -/
def fmWord (str : Vector Byte 60) (j : Nat) : Word :=
  str.toList.getD (4 * j + 3) 0 ++ str.toList.getD (4 * j + 2) 0 ++
    str.toList.getD (4 * j + 1) 0 ++ str.toList.getD (4 * j) 0

/-- The word of one telemetry field, words 64 to 100: signed fields sign-extended, unsigned fields zero-extended
(30_encoding R104, 20_memory R68). -/
def fieldWord (r : Results) (i : Nat) : Word :=
  if i = 64 then r.linkStat.rssi1.signExtend 32
  else if i = 65 then r.linkStat.rssi2.signExtend 32
  else if i = 66 then r.linkStat.lq.setWidth 32
  else if i = 67 then r.linkStat.mode.setWidth 32
  else if i = 68 then r.attitude.pitch.signExtend 32
  else if i = 69 then r.attitude.roll.signExtend 32
  else if i = 70 then r.attitude.yaw.signExtend 32
  else if i = 72 then r.flightMode.len.setWidth 32
  else if 73 ≤ i ∧ i ≤ 87 then fmWord r.flightMode.str (i - 73)
  else if i = 88 then r.battery.voltage.signExtend 32
  else if i = 89 then r.battery.current.signExtend 32
  else if i = 90 then r.battery.mah.setWidth 32
  else if i = 91 then r.battery.percent.setWidth 32
  else if i = 92 then r.gps.lat
  else if i = 93 then r.gps.lon
  else if i = 94 then r.gps.gspd.signExtend 32
  else if i = 95 then r.gps.hdg.signExtend 32
  else if i = 96 then r.gps.alt
  else if i = 97 then r.gps.sats.setWidth 32
  else if i = 100 then r.vario.vspd.signExtend 32
  else 0

/-- The word of one sequence counter, words 8 to 14 (44_host_interface R200). -/
def seqWord (q : SeqCounters) (i : Nat) : Word :=
  if i = 8 then q.channels
  else if i = 9 then q.linkStat
  else if i = 10 then q.attitude
  else if i = 11 then q.flightMode
  else if i = 12 then q.battery
  else if i = 13 then q.gps
  else if i = 14 then q.vario
  else 0

/-- `READ(index)`: the word at a word index, 0 for a reserved one (44_host_interface R200). -/
def readWord (s : State) (index : BitVec 7) : Word :=
  if index.toNat = 0 then ctrlWord s
  else if index.toNat = 1 then statusWord s
  else if index.toNat = 2 then s.framesValidated
  else if index.toNat = 3 then s.framesRejected
  else if index.toNat = 4 then s.bytesConsumed
  else if index.toNat = 5 then s.payloadTooShort
  else if index.toNat = 6 then s.results.recValid.setWidth 32
  else if 8 ≤ index.toNat ∧ index.toNat ≤ 14 then seqWord s.results.seq index.toNat
  else if 16 ≤ index.toNat ∧ index.toNat ≤ 31 then
    channelWord (s.results.chRaw.toList.getD (index.toNat - 16) 0)
  else fieldWord s.results index.toNat

end Sys2Proof.Machine
end

