-- ==== Sys2Proof/Machine/Transactions.lean ====
section
/-! DEFINITION. The host transactions (30_encoding R107): PUSH (42_synchronizer R160), READ, WRITE, POP (44_host_interface
R200, R201, R203) and RESET (70_reset R240). PUSH and POP change nothing while they are not enabled (log 7). -/

namespace Sys2Proof.Machine

/-- PUSH: append the byte when `in_ready` (42_synchronizer R160, R161). -/
def pushByte (b : Byte) (s : State) : State :=
  if inReady s then { s with buf := memAppend s.buf b } else s

/-- WRITE: `CTRL` at index 0, `SBUS_EN` only when S.Bus is implemented; nothing elsewhere (44_host_interface R201). -/
def writeWord (index : BitVec 7) (data : Word) (s : State) : State :=
  if index = 0 then
    { s with ctrl :=
      { evEn := data.getLsbD 0
        sbusEn := if s.params.sbusImpl then data.getLsbD 1 else s.ctrl.sbusEn } }
  else s

/-- POP: answer and remove the oldest record, when there is one (44_host_interface R203). -/
def popEvent (s : State) : State :=
  match s.evq with
  | [] => s
  | e :: rest => answer (.event (eventBits e)) { s with evq := rest }

/-- RESET: every element of the block takes its value in 10_state R41 (70_reset R240). The parameters and the
fields of the environment are not the block's and stay (log 18). -/
def resetBlock (s : State) : State :=
  { State.reset with
    params := s.params, sched := s.sched, source := s.source, requests := s.requests, log := s.log }

/-- PUSH (42_synchronizer R160). -/
def execPush (b : Byte) (s : State) : Host.Outcome State Fault Refusal := .next (pushByte b s)

/-- READ (44_host_interface R200). -/
def execRead (index : BitVec 7) (s : State) : Host.Outcome State Fault Refusal :=
  .next (answer (.data (readWord s index)) s)

/-- WRITE (44_host_interface R201). -/
def execWrite (index : BitVec 7) (data : Word) (s : State) : Host.Outcome State Fault Refusal :=
  .next (writeWord index data s)

/-- POP (44_host_interface R203). -/
def execPop (s : State) : Host.Outcome State Fault Refusal := .next (popEvent s)

/-- RESET (70_reset R240). -/
def execReset (s : State) : Host.Outcome State Fault Refusal := .next (resetBlock s)

end Sys2Proof.Machine
end

