-- ==== Sys2Proof/Machine/Dispatch.lean ====
section
/-! DEFINITION. The meaning of every operation, one arm per constructor. -/

namespace Sys2Proof.Machine

def exec (i : Instr) (s : State) : Host.Outcome State Fault Refusal :=
  match i with
  | .decGps p => Sys2Proof.Machine.execDecGps p s
  | .decVario p => Sys2Proof.Machine.execDecVario p s
  | .decBattery p => Sys2Proof.Machine.execDecBattery p s
  | .decLinkstat p => Sys2Proof.Machine.execDecLinkstat p s
  | .decChannels p => Sys2Proof.Machine.execDecChannels p s
  | .decAttitude p => Sys2Proof.Machine.execDecAttitude p s
  | .decFlightmode p => Sys2Proof.Machine.execDecFlightmode p s
  | .decUnknown t p => Sys2Proof.Machine.execDecUnknown t p s
  | .drop => Sys2Proof.Machine.execDrop s
  | .lenReject => Sys2Proof.Machine.execLenReject s
  | .crcReject => Sys2Proof.Machine.execCrcReject s
  | .emit => Sys2Proof.Machine.execEmit s
  | .sbusAccept => Sys2Proof.Machine.execSbusAccept s
  | .sbusReject => Sys2Proof.Machine.execSbusReject s
  | .crc8Step acc b => Sys2Proof.Machine.execCrc8Step acc b s
  | .crc8 bytes => Sys2Proof.Machine.execCrc8 bytes s
  | .unpack p => Sys2Proof.Machine.execUnpack p s
  | .usMap v => Sys2Proof.Machine.execUsMap v s
  | .push b => Sys2Proof.Machine.execPush b s
  | .read index => Sys2Proof.Machine.execRead index s
  | .write index data => Sys2Proof.Machine.execWrite index data s
  | .pop => Sys2Proof.Machine.execPop s
  | .reset => Sys2Proof.Machine.execReset s

end Sys2Proof.Machine
end

