-- ==== Sys2Proof/Machine/Fetch.lean ====
section
/-! DEFINITION. Whose turn it is and what that agent offers (00_scope R18). The block fetches no instructions (20_memory R66):
the engine's turn offers the class of the buffer (30_encoding R111), the turn of another agent the transaction it has next.
All of it is plain data of State (log 1). -/

namespace Sys2Proof.Machine

/-- The agent whose turn it is: the first of `sched`, and the engine when `sched` is empty. -/
def agentOf (s : State) : Agent := s.sched.headD .engine

/-- The transaction a request of the host is (30_encoding R107). -/
def requestTransaction : Request → Transaction
  | .read i => .read i
  | .write i d => .write i d
  | .reset => .reset

/-- What the agent whose turn it is offers, or none when it has nothing to offer. -/
def fetch (s : State) : Option Code :=
  match agentOf s with
  | .engine => some (.step (classOf s))
  | .byteSource => s.source.head?.map fun b => .transaction (.push b)
  | .eventConsumer => some (.transaction .pop)
  | .host => s.requests.head?.map fun r => .transaction (requestTransaction r)

/-- The turn is over, and what the agent offered leaves its queue. The byte source keeps its byte while
`in_ready` is 0 (42_synchronizer R160). -/
def endTurn (s : State) : State :=
  match agentOf s with
  | .engine => { s with sched := s.sched.tail }
  | .byteSource =>
    { s with sched := s.sched.tail, source := if inReady s then s.source.tail else s.source }
  | .eventConsumer => { s with sched := s.sched.tail }
  | .host => { s with sched := s.sched.tail, requests := s.requests.tail }

/-- The state in which the engine's next turn runs the operation of a word of opcode_table.json: the word's bytes
are the stream buffer and the turn is the engine's; a first byte `0x0F` is an S.Bus candidate only on an instance with
S.Bus and with `SBUS_EN` set (log 13). -/
def placeWord (s : State) (nbits w : Nat) : State :=
  if BitVec.ofNat 8 (w % 2 ^ nbits) = Config.sbusSync then
    { s with
      buf := tableBytes nbits w
      sched := .engine :: s.sched
      params := { s.params with sbusImpl := true }
      ctrl := { s.ctrl with sbusEn := true } }
  else { s with buf := tableBytes nbits w, sched := .engine :: s.sched }

end Sys2Proof.Machine
end

