-- ==== Sys2Proof/Machine/Step.lean ====
section
/-! DEFINITION. One step of the machine: the agent whose turn it is performs the operation it offers (00_scope R18). -/

namespace Sys2Proof.Machine

/-- One step: the operation the agent offers, on the state in which its turn is over; when it offers nothing, or the
engine is in a waiting class, the turn passes and nothing else changes (00_scope R16, 42_synchronizer R142, R158). -/
def step (s : State) : Host.Outcome State Fault Refusal :=
  match fetch s with
  | none => .next (endTurn s)
  | some c =>
    match decode c with
    | .ok i => exec i (endTurn s)
    | .error _ => .next (endTurn s)

/-- The state in which the very next step runs the operation of a word of opcode_table.json (log 13). -/
def State.withFetchWord (s : State) (nbits w : Nat) : State := placeWord s nbits w

end Sys2Proof.Machine
end

