-- ==== Sys2Proof/Machine/Errors.lean ====
section
/-! DEFINITION. Which error an operation signals in a state (60_exceptions R220 to R226, R229). A signal halts nothing and
saves nothing (00_scope R15, 60_exceptions R227): its effects are the ones the operation's meaning has. -/

namespace Sys2Proof.Machine

/-- The code of an error (60_exceptions R220). -/
def errorCode : ErrorKind → Nat
  | .malformedLength => 1
  | .crcMismatch => 2
  | .payloadTooShort => 3
  | .insufficientData => 4
  | .unknownFrameType => 5
  | .streamStarved => 6

/-- What DECODE signals for a type byte and a payload (43_decoders R171, R179). -/
def decoderSignal (t : Byte) (p : List Byte) : Option ErrorKind :=
  if knownTypes.contains t then
    if p.length < minPayload t then some .payloadTooShort else none
  else some .unknownFrameType

/-- An engine step's signal, when the step is selected and not held. -/
def signalWhenSelected (c : StepClass) (s : State) (e : Option ErrorKind) : Option ErrorKind :=
  if classOf s = c ∧ held s = false then e else none

/-- The error an operation signals in a state, if any (60_exceptions R220, "raised by"). -/
def signals (i : Instr) (s : State) : Option ErrorKind :=
  match i with
  | .decGps p => decoderSignal 0x02#8 p
  | .decVario p => decoderSignal 0x07#8 p
  | .decBattery p => decoderSignal 0x08#8 p
  | .decLinkstat p => decoderSignal 0x14#8 p
  | .decChannels p => decoderSignal 0x16#8 p
  | .decAttitude p => decoderSignal 0x1E#8 p
  | .decFlightmode p => decoderSignal 0x21#8 p
  | .decUnknown _ _ => some .unknownFrameType
  | .drop => none
  | .lenReject => signalWhenSelected .badLen s (some .malformedLength)
  | .crcReject => signalWhenSelected .crcBad s (some .crcMismatch)
  | .emit => signalWhenSelected .crcOk s (decoderSignal (candidateType s) (candidatePayload s))
  | .sbusAccept => none
  | .sbusReject => signalWhenSelected .sbusBad s (some .malformedLength)
  | .crc8Step _ _ => none
  | .crc8 _ => none
  | .unpack p => if p.length < Config.chBytes then some .insufficientData else none
  | .usMap _ => none
  | .push _ => none
  | .read _ => none
  | .write _ _ => none
  | .pop => none
  | .reset => none

/-- StreamStarved holds exactly in the quiescent states; it is no error (60_exceptions R226). -/
def streamStarved (s : State) : Bool := quiescent s

end Sys2Proof.Machine
end

