-- ==== Sys2Proof/Machine/HostCalls.lean ====
section
/-! DEFINITION. The source's software calls and the script notation, as host sequences of transactions and engine steps
(44_host_interface R204 to R209; 30_encoding R108, R109). -/

namespace Sys2Proof.Machine

/-- The state after an operation. No operation stops the block (00_scope R16). -/
def perform (i : Instr) (s : State) : State :=
  match exec i s with
  | .next t => t
  | .fault _ => s
  | .refused _ => s

/-- One engine step: the one the class selects, none in a waiting class (30_encoding R111). -/
def engineTurn (s : State) : State :=
  match decodeStep (classOf s) with
  | .ok i => perform i s
  | .error _ => s

/-- At most `n` turns of SETTLE: an engine step, or a POP while the engine is held (30_encoding R108). -/
def settleTurns : Nat → State → State
  | 0, s => s
  | n + 1, s =>
    if quiescent s then s
    else if held s then settleTurns n (perform .pop s)
    else settleTurns n (engineTurn s)

/-- SETTLE (30_encoding R108). Every engine step consumes a byte, so these turns are enough (log 23). -/
def settle (s : State) : State := settleTurns (2 * s.buf.length + s.evq.length) s

/-- At most `n` POPs. -/
def popTurns : Nat → State → State
  | 0, s => s
  | n + 1, s => popTurns n (perform .pop s)

/-- POP until `evq` is empty. -/
def popAll (s : State) : State := popTurns s.evq.length s

/-- DRAIN (30_encoding R108). -/
def drain (s : State) : State := popAll (settle s)

/-- The PUSH statement of a script, and the input half of `feed`: SETTLE before each byte and after the last
(30_encoding R108, 44_host_interface R204). -/
def pushBytes : List Byte → State → State
  | [], s => settle s
  | b :: rest, s => pushBytes rest (perform (.push b) (settle s))

/-- `feed(bytes)`; the events it returns are the responses it adds to the log (44_host_interface R204). -/
def feed (bytes : List Byte) (s : State) : State := popAll (pushBytes bytes s)

/-- What READ answers at a word index. -/
def readAt (s : State) (i : Nat) : Word := readWord s (BitVec.ofNat 7 i)

/-- `k` steps of the machine, which never stop (00_scope R16). -/
def runSteps : Nat → State → State
  | 0, s => s
  | k + 1, s =>
    match step s with
    | .next t => runSteps k t
    | .fault _ => s
    | .refused _ => s

/-- READs of word indices, one after another: the answers, and the state after the last. The `j`-th number of `gaps`
is how many steps of the machine come between READ `j - 1` and READ `j` (before the first READ for `j = 0`); a missing
number is 0. Two READs may so see different states (20_memory R62, R63; 44_host_interface R200; log 29). -/
def readEach : List Nat → List Nat → State → List Word × State
  | [], _, s => ([], s)
  | i :: rest, gaps, s =>
    let t := runSteps (gaps.headD 0) s
    let answers := readEach rest gaps.tail (perform (.read (BitVec.ofNat 7 i)) t)
    (readAt t i :: answers.1, answers.2)

/-- The word indices of `CH[0..15]` (20_memory R68). -/
def channelWords : List Nat := (List.range 16).map (16 + ·)

/-- The word indices of a kind's fields (20_memory R68). -/
def kindWords : Kind → List Nat
  | .linkStat => [64, 65, 66, 67]
  | .attitude => [68, 69, 70]
  | .flightMode => (List.range 16).map (72 + ·)
  | .battery => [88, 89, 90, 91]
  | .gps => [92, 93, 94, 95, 96, 97]
  | .vario => [100]

/-- The word indices of a group's registers (20_memory R68). -/
def groupWords : ResultGroup → List Nat
  | .channels => channelWords
  | .telemetry k => kindWords k

/-- The word index of a group's `SEQ` counter (20_memory R68). -/
def seqIndex : ResultGroup → Nat
  | .channels => 8
  | .telemetry .linkStat => 9
  | .telemetry .attitude => 10
  | .telemetry .flightMode => 11
  | .telemetry .battery => 12
  | .telemetry .gps => 13
  | .telemetry .vario => 14

/-- `current_channels()`: the sixteen READs of `CH[k]`, which may come from different steps
(44_host_interface R205). -/
def currentChannels (gaps : List Nat) (s : State) : List Word × State := readEach channelWords gaps s

/-- `current_telemetry(kind)`: a READ of `REC_VALID`; none while the kind's bit is 0, else the READs of the kind's words,
which may be torn across records (44_host_interface R206). -/
def currentTelemetry (k : Kind) (gaps : List Nat) (s : State) : Option (List Word) × State :=
  let valid := readEach [6] gaps s
  if (valid.1.headD 0).getLsbD (kindBit k) then
    let words := readEach (kindWords k) gaps.tail valid.2
    (some words.1, words.2)
  else (none, valid.2)

/-- `stats()`: frames validated, frames rejected and bytes total, three READs that may come from different states
(44_host_interface R207). -/
def stats (gaps : List Nat) (s : State) : List Word × State := readEach [2, 3, 4] gaps s

/-- The protocol for a whole group from one step: READ its `SEQ` counter, its words, and the counter again; the words
count when the two counters are equal, else the answer is none and the host may try again
(20_memory R70; 44_host_interface R205, R206). -/
def consistentRead (g : ResultGroup) (gaps : List Nat) (s : State) : Option (List Word) × State :=
  let answers := readEach (seqIndex g :: (groupWords g ++ [seqIndex g])) gaps s
  (if answers.1.head? = answers.1.getLast? then some answers.1.tail.dropLast else none, answers.2)

/-- The byte address of a word index (20_memory R50, R52). -/
def byteAddress (index : BitVec 7) : Nat := 4 * index.toNat

/-- The statements of a script (30_encoding R108) and the pseudo-statements that expand into PUSH (R109). -/
inductive ScriptLine where
  | push (bytes : List Byte)
  | settle
  | pop
  | drain
  | read (index : BitVec 7)
  | write (index : BitVec 7) (data : Word)
  | reset
  | frame (t : Byte) (payload : List Byte)
  | badFrame (t : Byte) (payload : List Byte)
  | channels (v : Vector Raw 16)
  | fill (n : Nat) (b : Byte)
  deriving DecidableEq, Repr

/-- The frame with bit 0 of its CRC byte flipped (30_encoding R109); as in `frameBytes`, what more than 60 payload bytes
give is the model's choice (log 27). -/
def badFrameBytes (t : Byte) (payload : List Byte) : List Byte :=
  (frameBytes t payload).dropLast ++ ((frameBytes t payload).getLast?.map (· ^^^ 0x01#8)).toList

/-- One statement of a script (30_encoding R108, R109). R109 gives FRAME and BADFRAME a meaning for at most 60 payload
bytes. DESIGN CHOICE: for more, the model pushes `frameBytes` all the same (log 27). -/
def runLine (l : ScriptLine) (s : State) : State :=
  match l with
  | .push bytes => pushBytes bytes s
  | .settle => settle s
  | .pop => perform .pop s
  | .drain => drain s
  | .read i => perform (.read i) s
  | .write i d => perform (.write i d) s
  | .reset => perform .reset s
  | .frame t p => pushBytes (frameBytes t p) s
  | .badFrame t p => pushBytes (badFrameBytes t p) s
  | .channels v => pushBytes (frameBytes 0x16#8 (pack v)) s
  | .fill n b => pushBytes (List.replicate n b) s

/-- A script: its statements in order, then the implied DRAIN (30_encoding R108). -/
def runScript (lines : List ScriptLine) (s : State) : State :=
  drain (lines.foldl (fun t l => runLine l t) s)

end Sys2Proof.Machine
end

