-- ==== Sys2Proof/Machine/Ring.lean ====
section
/-! DEFINITION. The ring form in which an implementation holds `buf` (10_state R23). It is no part of State: only the
logical sequence is architectural (log 9). -/

namespace Sys2Proof.Machine

/-- `RING[0..63]`, the 6-bit `HEAD` and the 7-bit `LEVEL` (10_state R23). -/
structure RingForm where
  ring : Vector Byte 64
  head : BitVec 6
  level : BitVec 7
  deriving DecidableEq, Repr

/-- `LEVEL` is 0..64 (10_state R23). -/
def ringWf (r : RingForm) : Bool := decide (r.level.toNat ≤ Config.bufCap)

/-- `buf[i] = RING[(HEAD + i) mod 64]` (10_state R23). -/
def ringByte (r : RingForm) (i : Nat) : Byte := r.ring.toList.getD ((r.head.toNat + i) % 64) 0

/-- The logical sequence `buf` a ring holds (10_state R23). -/
def ringBuf (r : RingForm) : Memory := (List.range r.level.toNat).map (ringByte r)

/-- Append: write `RING[(HEAD + LEVEL) mod 64]` and add 1 to `LEVEL` (10_state R23). -/
def ringAppend (r : RingForm) (b : Byte) : RingForm :=
  { r with
    ring := r.ring.setIfInBounds ((r.head.toNat + r.level.toNat) % 64) b
    level := r.level + 1 }

/-- `consume(n)`: advance `HEAD` modulo 64 and lower `LEVEL` (10_state R23). -/
def ringConsume (r : RingForm) (n : Nat) : RingForm :=
  { r with
    head := BitVec.ofNat 6 ((r.head.toNat + n) % 64)
    level := BitVec.ofNat 7 (r.level.toNat - n) }

end Sys2Proof.Machine
end

