-- ==== Sys2Proof/Safety.lean ====
section
/-! DEFINITION. What counts as a safe state of the block, in the terms the statements use. No run can go wrong by a fault
(00_scope R16), so safety is an invariant of the state and the end of a run. -/

namespace Sys2Proof.Machine

/-- The telemetry record of a kind is as reset leaves it (10_state R41, 70_reset R250). -/
def recordAtReset (k : Kind) (r : Results) : Prop :=
  match k with
  | .linkStat => r.linkStat = resetResults.linkStat
  | .attitude => r.attitude = resetResults.attitude
  | .flightMode => r.flightMode = resetResults.flightMode
  | .battery => r.battery = resetResults.battery
  | .gps => r.gps = resetResults.gps
  | .vario => r.vario = resetResults.vario

/-- The bounds and relations 10_state gives the elements of the state. -/
structure StateInv (s : State) : Prop where
  /-- `EV_DEPTH` is an integer 1..255 (00_scope R9). -/
  params : s.params.wf = true
  /-- `buf` holds at most 64 bytes (10_state R21). -/
  buf : memoryWf s.buf = true
  /-- `evq` holds at most `EV_DEPTH` records (10_state R28). -/
  evq : s.evq.length ≤ s.params.evDepth
  /-- `SBUS_EN` is 0 where S.Bus is not implemented (10_state R29). -/
  sbusEn : s.params.sbusImpl = false → s.ctrl.sbusEn = false
  /-- `FM_LEN` is 0..60 (10_state R34). -/
  fmLen : s.results.flightMode.len.toNat ≤ 60
  /-- The string bytes at and beyond `FM_LEN` are 0 (10_state R34). -/
  fmTail : ∀ i, s.results.flightMode.len.toNat ≤ i → s.results.flightMode.str.toList.getD i 0 = 0
  /-- A kind with no record has its registers and its counter as reset leaves them (10_state R38, 70_reset R250). On an
  S.Bus instance it holds by the model's form of SBUS_DECODE (log 6). -/
  noRecord : ∀ k, s.results.recValid.getLsbD (kindBit k) = false →
    recordAtReset k s.results ∧ seqOf (.telemetry k) s.results.seq = 0
  /-- Without S.Bus, bit 15 of `BAT_MAH` is 0 (30_encoding R91). -/
  mahBit : s.params.sbusImpl = false → s.results.battery.mah.getLsbD 15 = false
  /-- Without S.Bus, `GPS_ALT` is in -33768..31767 (10_state R36). -/
  altRange : s.params.sbusImpl = false → -33768 ≤ s.results.gps.alt.toInt ∧ s.results.gps.alt.toInt ≤ 31767

/-- The block's own elements (10_state R20) are equal; the environment's fields may differ. -/
def sameBlock (s t : State) : Prop :=
  t.buf = s.buf ∧ t.evq = s.evq ∧ t.ctrl = s.ctrl ∧ t.framesValidated = s.framesValidated ∧
    t.framesRejected = s.framesRejected ∧ t.bytesConsumed = s.bytesConsumed ∧
    t.payloadTooShort = s.payloadTooShort ∧ t.results = s.results

/-- The end of a run, by the three conditions of 44_host_interface R209: no byte left to push, the engine quiescent, `evq`
empty. DESIGN CHOICE: a request the host has still to make does not keep a run going. 42_synchronizer R162 and
92_eei_decisions D34 ask that no agent has an enabled step, and READ, WRITE and RESET are always enabled (log 28). -/
def endOfRun (s : State) : Prop := s.source = [] ∧ quiescent s = true ∧ s.evq = []

end Sys2Proof.Machine
end

