-- ==== Sys2Proof/Certificates/Slice0/Obligations.lean ====
section
/-! DEFINITION. The statements for the provers, from the numbered rules of the spec. The namespace Spec holds the terms
they are written in: numbers read straight from bytes, as the rules write them, apart from the model's own functions. -/

namespace Sys2Proof.Spec

open Sys2Proof.Machine

/-! ### Terms -/

/-- `sext_N(v)`, the two's-complement value of an `n`-bit field (00_scope R12). -/
def sext (n v : Nat) : Int := if v < 2 ^ (n - 1) then (v : Int) else (v : Int) - 2 ^ n

/-- `u8(o)`, the byte at frame offset `o` of a payload (00_scope R14; the payload starts at offset 3). -/
def u8 (p : List Byte) (o : Nat) : Nat := (p.getD (o - 3) 0).toNat

/-- `s8(o)` (00_scope R14). -/
def s8 (p : List Byte) (o : Nat) : Int := sext 8 (u8 p o)

/-- `s16(o)` (00_scope R14). -/
def s16 (p : List Byte) (o : Nat) : Int := sext 16 (u8 p o * 256 + u8 p (o + 1))

/-- `s32(o)` (00_scope R14). -/
def s32 (p : List Byte) (o : Nat) : Int :=
  sext 32 (u8 p o * 16777216 + u8 p (o + 1) * 65536 + u8 p (o + 2) * 256 + u8 p (o + 3))

/-- A 32-bit counter's value, saturating (00_scope R15). -/
def sat (n : Nat) : Nat := min n (2 ^ 32 - 1)

/-- The integer of a byte sequence, first byte least significant (41_unpacker R132). -/
def littleEndian : List Byte → Nat
  | [] => 0
  | b :: rest => b.toNat + 256 * littleEndian rest

/-- `Σ_k v[k] << (11k)` (41_unpacker R136). -/
def packedSum (v : Vector Raw 16) : Nat :=
  ((List.range 16).map fun k => (v.toList.getD k 0).toNat * 2 ^ (11 * k)).sum

/-- The table `T` of 40_crc8 R124, row by row. -/
def crcTable : List Nat :=
  [0x00, 0xD5, 0x7F, 0xAA, 0xFE, 0x2B, 0x81, 0x54, 0x29, 0xFC, 0x56, 0x83, 0xD7, 0x02, 0xA8, 0x7D] ++
  [0x52, 0x87, 0x2D, 0xF8, 0xAC, 0x79, 0xD3, 0x06, 0x7B, 0xAE, 0x04, 0xD1, 0x85, 0x50, 0xFA, 0x2F] ++
  [0xA4, 0x71, 0xDB, 0x0E, 0x5A, 0x8F, 0x25, 0xF0, 0x8D, 0x58, 0xF2, 0x27, 0x73, 0xA6, 0x0C, 0xD9] ++
  [0xF6, 0x23, 0x89, 0x5C, 0x08, 0xDD, 0x77, 0xA2, 0xDF, 0x0A, 0xA0, 0x75, 0x21, 0xF4, 0x5E, 0x8B] ++
  [0x9D, 0x48, 0xE2, 0x37, 0x63, 0xB6, 0x1C, 0xC9, 0xB4, 0x61, 0xCB, 0x1E, 0x4A, 0x9F, 0x35, 0xE0] ++
  [0xCF, 0x1A, 0xB0, 0x65, 0x31, 0xE4, 0x4E, 0x9B, 0xE6, 0x33, 0x99, 0x4C, 0x18, 0xCD, 0x67, 0xB2] ++
  [0x39, 0xEC, 0x46, 0x93, 0xC7, 0x12, 0xB8, 0x6D, 0x10, 0xC5, 0x6F, 0xBA, 0xEE, 0x3B, 0x91, 0x44] ++
  [0x6B, 0xBE, 0x14, 0xC1, 0x95, 0x40, 0xEA, 0x3F, 0x42, 0x97, 0x3D, 0xE8, 0xBC, 0x69, 0xC3, 0x16] ++
  [0xEF, 0x3A, 0x90, 0x45, 0x11, 0xC4, 0x6E, 0xBB, 0xC6, 0x13, 0xB9, 0x6C, 0x38, 0xED, 0x47, 0x92] ++
  [0xBD, 0x68, 0xC2, 0x17, 0x43, 0x96, 0x3C, 0xE9, 0x94, 0x41, 0xEB, 0x3E, 0x6A, 0xBF, 0x15, 0xC0] ++
  [0x4B, 0x9E, 0x34, 0xE1, 0xB5, 0x60, 0xCA, 0x1F, 0x62, 0xB7, 0x1D, 0xC8, 0x9C, 0x49, 0xE3, 0x36] ++
  [0x19, 0xCC, 0x66, 0xB3, 0xE7, 0x32, 0x98, 0x4D, 0x30, 0xE5, 0x4F, 0x9A, 0xCE, 0x1B, 0xB1, 0x64] ++
  [0x72, 0xA7, 0x0D, 0xD8, 0x8C, 0x59, 0xF3, 0x26, 0x5B, 0x8E, 0x24, 0xF1, 0xA5, 0x70, 0xDA, 0x0F] ++
  [0x20, 0xF5, 0x5F, 0x8A, 0xDE, 0x0B, 0xA1, 0x74, 0x09, 0xDC, 0x76, 0xA3, 0xF7, 0x22, 0x88, 0x5D] ++
  [0xD6, 0x03, 0xA9, 0x7C, 0x28, 0xFD, 0x57, 0x82, 0xFF, 0x2A, 0x80, 0x55, 0x01, 0xD4, 0x7E, 0xAB] ++
  [0x84, 0x51, 0xFB, 0x2E, 0x7A, 0xAF, 0x05, 0xD0, 0xAD, 0x78, 0xD2, 0x07, 0x53, 0x86, 0x2C, 0xF9]

/-- `T[i]` (40_crc8 R124). -/
def crcEntry (i : Byte) : Byte := BitVec.ofNat 8 (crcTable.getD i.toNat 0)

/-- S.Bus is enabled: `0x0F` is in `SYNC_SET(CTRL)` (42_synchronizer R141). -/
def sbusEnabled (s : State) : Prop := s.params.sbusImpl = true ∧ s.ctrl.sbusEn = true

/-- An emitting step is not held (42_synchronizer R150). -/
def roomForEvent (s : State) : Prop := s.ctrl.evEn = false ∨ s.evq.length < s.params.evDepth

/-- `evq` after `emit(e)` (20_memory R58). -/
def queued (s : State) (e : Event) : List Event := if s.ctrl.evEn = true then s.evq ++ [e] else s.evq

/-- The bytes of the frame `C8 L t payload crc` (30_encoding R81, R84). -/
def frame (t : Byte) (payload : List Byte) : List Byte :=
  [0xC8#8, BitVec.ofNat 8 (payload.length + 2), t] ++ payload ++
    [crc8 (BitVec.ofNat 8 (payload.length + 2) :: t :: payload)]

/-- The type byte of a result group's decoder (30_encoding R86). -/
def groupType : ResultGroup → Byte
  | .channels => 0x16#8
  | .telemetry .linkStat => 0x14#8
  | .telemetry .attitude => 0x1E#8
  | .telemetry .flightMode => 0x21#8
  | .telemetry .battery => 0x08#8
  | .telemetry .gps => 0x02#8
  | .telemetry .vario => 0x07#8

/-- A group's registers are equal in two banks (10_state R31 to R37). -/
def sameRecord (g : ResultGroup) (r r' : Results) : Prop :=
  match g with
  | .channels => r'.chRaw = r.chRaw
  | .telemetry .linkStat => r'.linkStat = r.linkStat
  | .telemetry .attitude => r'.attitude = r.attitude
  | .telemetry .flightMode => r'.flightMode = r.flightMode
  | .telemetry .battery => r'.battery = r.battery
  | .telemetry .gps => r'.gps = r.gps
  | .telemetry .vario => r'.vario = r.vario

/-- The engine's six steps (42_synchronizer R144 to R149). -/
def engineSteps : List Instr := [.drop, .lenReject, .crcReject, .emit, .sbusAccept, .sbusReject]

/-- The operations that are no engine step and no decoder: transactions but RESET, and primitives. -/
def isHostOrPrimitive : Instr → Bool
  | .decGps _ => false
  | .decVario _ => false
  | .decBattery _ => false
  | .decLinkstat _ => false
  | .decChannels _ => false
  | .decAttitude _ => false
  | .decFlightmode _ => false
  | .decUnknown _ _ => false
  | .drop => false
  | .lenReject => false
  | .crcReject => false
  | .emit => false
  | .sbusAccept => false
  | .sbusReject => false
  | .crc8Step _ _ => true
  | .crc8 _ => true
  | .unpack _ => true
  | .usMap _ => true
  | .push _ => true
  | .read _ => true
  | .write _ _ => true
  | .pop => true
  | .reset => false

/-- The operation completes by signalling PayloadTooShort: only `PAYLOAD_TOO_SHORT` changes (43_decoders R171). -/
def tooShort (i : Instr) (s : State) : Prop :=
  signals i s = some .payloadTooShort ∧
    ∃ t, exec i s = .next t ∧ t.payloadTooShort.toNat = sat (s.payloadTooShort.toNat + 1) ∧
      t = { s with payloadTooShort := t.payloadTooShort }

/-- READ of a word index completes, answers a word with the property, and changes nothing else
(44_host_interface R200). -/
def readAnswers (i : Nat) (s : State) (good : Word → Prop) : Prop :=
  ∃ w, exec (.read (BitVec.ofNat 7 i)) s = .next { s with log := s.log ++ [.data w] } ∧ good w

end Sys2Proof.Spec

open Sys2Proof Sys2Proof.Machine Sys2Proof.Spec

/-! ### The CRC8 engine -/

/-- CRC8_STEP answers `T[acc ^ b]`, and `T[i]` is its answer for accumulator 0 (R124). -/
def Obligations.Crc8StepAnswersTheTableEntry : Prop :=
  ∀ (acc b : Byte) (s : State),
    exec (.crc8Step acc b) s = .next { s with log := s.log ++ [.checksum (crcEntry (acc ^^^ b))] } ∧
      crcEntry b = crc8Step 0#8 b

/-- CRC8 folds CRC8_STEP from 0 over the bytes, first to last; leading zero bytes change nothing (R121). -/
def Obligations.Crc8FoldsTheStepFromZero : Prop :=
  ∀ (bytes : List Byte) (s : State),
    exec (.crc8 bytes) s =
        .next { s with log := s.log ++ [.checksum (bytes.foldl (fun acc b => crcEntry (acc ^^^ b)) 0#8)] } ∧
      crc8 (0#8 :: bytes) = crc8 bytes

/-- A sequence with a CRC byte behind it has CRC8 zero exactly when the byte is its CRC8 (R123). -/
def Obligations.Crc8ResidueIsZeroExactlyForTheRightByte : Prop :=
  ∀ (bytes : List Byte) (c : Byte), crc8 (bytes ++ [c]) = 0#8 ↔ c = crc8 bytes

/-! ### The unpacker and the microsecond mapping -/

/-- UNPACK answers sixteen fields, bit `j` of field `k` being stream bit `11k + j`, from 22 bytes or more, and signals
InsufficientData with no values for fewer (R130, R131). -/
def Obligations.UnpackAnswersTheStreamBits : Prop :=
  ∀ (p : List Byte) (s : State),
    (p.length < 22 →
      signals (.unpack p) s = some .insufficientData ∧
        exec (.unpack p) s = .next { s with log := s.log ++ [.error .insufficientData] }) ∧
    (22 ≤ p.length → ∃ v : Vector Raw 16,
      exec (.unpack p) s = .next { s with log := s.log ++ [.lanes v] } ∧
        ∀ k (hk : k < 16) (j : Nat), j < 11 →
          v[k].getLsbD j = (p.getD ((11 * k + j) / 8) 0).getLsbD ((11 * k + j) % 8))

/-- Field `k` of UNPACK is `(N >> 11k) & 0x7FF` of the 176-bit little-endian integer (R132). -/
def Obligations.UnpackIsTheIntegerShift : Prop :=
  ∀ p : List Byte, 22 ≤ p.length → ∃ v : Vector Raw 16, unpack p = .ok v ∧
    ∀ k (hk : k < 16), v[k].toNat = (littleEndian (p.take 22) >>> (11 * k)) &&& 0x7FF

/-- PACK writes `Σ v[k] << 11k` as 22 little-endian bytes, and UNPACK inverts it (R136). -/
def Obligations.UnpackInvertsPack : Prop :=
  ∀ v : Vector Raw 16,
    (pack v).length = 22 ∧ littleEndian (pack v) = packedSum v ∧ unpack (pack v) = .ok v

/-- US_MAP answers `988 + (v * 1024) // 2047`, in 988..2012; neighbours differ by 0 or 1, and 1023 of the 2047 pairs by
0 (R134). -/
def Obligations.UsMapScalesAndTruncates : Prop :=
  (∀ (v : Raw) (s : State),
    exec (.usMap v) s = .next { s with log := s.log ++ [.micros (988 + v.toNat * 1024 / 2047)] } ∧
      988 ≤ 988 + v.toNat * 1024 / 2047 ∧ 988 + v.toNat * 1024 / 2047 ≤ 2012) ∧
  (∀ n, n < 2047 → usMap (BitVec.ofNat 11 (n + 1)) = usMap (BitVec.ofNat 11 n) ∨
    usMap (BitVec.ofNat 11 (n + 1)) = usMap (BitVec.ofNat 11 n) + 1) ∧
  ((List.range 2047).filter fun n => usMap (BitVec.ofNat 11 n) == usMap (BitVec.ofNat 11 (n + 1))).length = 1023

/-! ### The decoders -/

/-- DEC_LINKSTAT: the four registers, `REC_VALID.LINKSTAT` and `SEQ_LINKSTAT`, and nothing else (R173). -/
def Obligations.DecLinkstatWritesItsRecord : Prop :=
  ∀ (p : List Byte) (s : State), decodeType 0x14#8 p = .decLinkstat p ∧
    (p.length < 6 → tooShort (.decLinkstat p) s) ∧
    (6 ≤ p.length → ∃ t, exec (.decLinkstat p) s = .next t ∧
      t.results.linkStat.rssi1.toInt = s8 p 3 ∧ t.results.linkStat.rssi2.toInt = s8 p 4 ∧
      t.results.linkStat.lq.toNat = u8 p 5 ∧ t.results.linkStat.mode.toNat = u8 p 8 ∧
      t = { s with results :=
        { s.results with
          linkStat := t.results.linkStat
          recValid := s.results.recValid ||| 0b000001#6
          seq := { s.results.seq with linkStat := s.results.seq.linkStat + 1 } } })

/-- DEC_ATTITUDE: the three registers, `REC_VALID.ATTITUDE` and `SEQ_ATTITUDE`, and nothing else (R174). -/
def Obligations.DecAttitudeWritesItsRecord : Prop :=
  ∀ (p : List Byte) (s : State), decodeType 0x1E#8 p = .decAttitude p ∧
    (p.length < 6 → tooShort (.decAttitude p) s) ∧
    (6 ≤ p.length → ∃ t, exec (.decAttitude p) s = .next t ∧
      t.results.attitude.pitch.toInt = s16 p 3 ∧ t.results.attitude.roll.toInt = s16 p 5 ∧
      t.results.attitude.yaw.toInt = s16 p 7 ∧
      t = { s with results :=
        { s.results with
          attitude := t.results.attitude
          recValid := s.results.recValid ||| 0b000010#6
          seq := { s.results.seq with attitude := s.results.seq.attitude + 1 } } })

/-- DEC_FLIGHTMODE: the payload up to its first `0x00` or its end, trimmed of the six space bytes at both ends, padded
with `0x00` to sixty bytes; `REC_VALID.FLIGHTMODE` and `SEQ_FLIGHTMODE`; nothing else (R175). -/
def Obligations.DecFlightmodeWritesTheTrimmedString : Prop :=
  ∀ (p : List Byte) (s : State), p.length ≤ 60 → decodeType 0x21#8 p = .decFlightmode p ∧
    (p.length < 1 → tooShort (.decFlightmode p) s) ∧
    (1 ≤ p.length → ∃ (t : State) (before str after rest : List Byte), exec (.decFlightmode p) s = .next t ∧
      p = before ++ str ++ after ++ rest ∧
      (0#8 ∉ before ++ str ++ after) ∧ (rest = [] ∨ rest.head? = some 0#8) ∧
      (∀ b ∈ before ++ after, b ∈ [0x09#8, 0x0A#8, 0x0B#8, 0x0C#8, 0x0D#8, 0x20#8]) ∧
      (∀ b, str.head? = some b ∨ str.getLast? = some b →
        b ∉ [0x09#8, 0x0A#8, 0x0B#8, 0x0C#8, 0x0D#8, 0x20#8]) ∧
      t.results.flightMode.len.toNat = str.length ∧
      (∀ i (hi : i < 60), t.results.flightMode.str[i] = str.getD i 0#8) ∧
      t = { s with results :=
        { s.results with
          flightMode := t.results.flightMode
          recValid := s.results.recValid ||| 0b000100#6
          seq := { s.results.seq with flightMode := s.results.seq.flightMode + 1 } } })

/-- DEC_BATTERY: the four registers with the `<< 7` packing of mAh, bit 15 of which is 0; `REC_VALID.BATTERY` and
`SEQ_BATTERY`; nothing else (R176). -/
def Obligations.DecBatteryWritesItsRecord : Prop :=
  ∀ (p : List Byte) (s : State), decodeType 0x08#8 p = .decBattery p ∧
    (p.length < 8 → tooShort (.decBattery p) s) ∧
    (8 ≤ p.length → ∃ t, exec (.decBattery p) s = .next t ∧
      t.results.battery.voltage.toInt = s16 p 3 ∧ t.results.battery.current.toInt = s16 p 5 ∧
      t.results.battery.mah.toNat = (u8 p 7 <<< 16) ||| (u8 p 8 <<< 7) ||| u8 p 9 ∧
      t.results.battery.mah.getLsbD 15 = false ∧
      t.results.battery.percent.toNat = u8 p 10 ∧
      t = { s with results :=
        { s.results with
          battery := t.results.battery
          recValid := s.results.recValid ||| 0b001000#6
          seq := { s.results.seq with battery := s.results.seq.battery + 1 } } })

/-- DEC_GPS: the six registers, the altitude 1000 below its field; `REC_VALID.GPS` and `SEQ_GPS`; nothing else
(R177). -/
def Obligations.DecGpsWritesItsRecord : Prop :=
  ∀ (p : List Byte) (s : State), decodeType 0x02#8 p = .decGps p ∧
    (p.length < 15 → tooShort (.decGps p) s) ∧
    (15 ≤ p.length → ∃ t, exec (.decGps p) s = .next t ∧
      t.results.gps.lat.toInt = s32 p 3 ∧ t.results.gps.lon.toInt = s32 p 7 ∧
      t.results.gps.gspd.toInt = s16 p 11 ∧ t.results.gps.hdg.toInt = s16 p 13 ∧
      t.results.gps.alt.toInt = s16 p 15 - 1000 ∧ t.results.gps.sats.toNat = u8 p 17 ∧
      t = { s with results :=
        { s.results with
          gps := t.results.gps
          recValid := s.results.recValid ||| 0b010000#6
          seq := { s.results.seq with gps := s.results.seq.gps + 1 } } })

/-- DEC_VARIO: the register, `REC_VALID.VARIO` and `SEQ_VARIO`, and nothing else (R178). -/
def Obligations.DecVarioWritesItsRecord : Prop :=
  ∀ (p : List Byte) (s : State), decodeType 0x07#8 p = .decVario p ∧
    (p.length < 2 → tooShort (.decVario p) s) ∧
    (2 ≤ p.length → ∃ t, exec (.decVario p) s = .next t ∧
      t.results.vario.vspd.toInt = s16 p 3 ∧
      t = { s with results :=
        { s.results with
          vario := t.results.vario
          recValid := s.results.recValid ||| 0b100000#6
          seq := { s.results.seq with vario := s.results.seq.vario + 1 } } })

/-- DEC_CHANNELS: all sixteen channel registers from the first 22 payload bytes, and `SEQ_CHANNELS`; no `REC_VALID` bit
and nothing else (R172). -/
def Obligations.DecChannelsWritesAllSixteen : Prop :=
  ∀ (p : List Byte) (s : State), decodeType 0x16#8 p = .decChannels p ∧
    (p.length < 22 → tooShort (.decChannels p) s) ∧
    (22 ≤ p.length → ∃ t, exec (.decChannels p) s = .next t ∧
      (∀ k (hk : k < 16) (j : Nat), j < 11 →
        t.results.chRaw[k].getLsbD j = (p.getD ((11 * k + j) / 8) 0).getLsbD ((11 * k + j) % 8)) ∧
      t = { s with results :=
        { s.results with
          chRaw := t.results.chRaw
          seq := { s.results.seq with channels := s.results.seq.channels + 1 } } })

/-- DEC_UNKNOWN, selected by every type byte but the seven, writes nothing (R179). -/
def Obligations.DecUnknownWritesNothing : Prop :=
  ∀ (t : Byte) (p : List Byte) (s : State),
    t ∉ [0x02#8, 0x07#8, 0x08#8, 0x14#8, 0x16#8, 0x1E#8, 0x21#8] →
    decodeType t p = .decUnknown t p ∧ exec (.decUnknown t p) s = .next s ∧
      signals (.decUnknown t p) s = some .unknownFrameType

/-! ### Encoding and decoding -/

/-- Decoding the encoding of a well-formed operation gives the operation back. -/
def Obligations.DecodeInvertsEncode : Prop := ∀ i : Instr, i.wf = true → decode (encode i) = .ok i

/-- A decoder's frame is read back with whatever bytes follow it, and whatever is read from a byte sequence is the frame
of a well-formed decoder followed by the rest. -/
def Obligations.FramesAreReadBackExactly : Prop :=
  (∀ (i : Instr) (bytes rest : List Byte), i.wf = true → encode i = .frame bytes →
    decodeFrame (bytes ++ rest) = .ok (i, rest)) ∧
  (∀ (i : Instr) (bytes rest : List Byte), decodeFrame bytes = .ok (i, rest) →
    i.wf = true ∧ ∃ fr, encode i = .frame fr ∧ bytes = fr ++ rest)

/-- The form of an encoded frame: sync byte, length byte in 2..62, `L + 2` bytes, CRC byte over `frame[1..L]`
(R81, R82, R84, R10). -/
def Obligations.EncodedFramesHaveTheWireFormat : Prop :=
  ∀ (i : Instr) (fr : List Byte), i.wf = true → encode i = .frame fr →
    fr.getD 0 0#8 = 0xC8#8 ∧ 2 ≤ (fr.getD 1 0#8).toNat ∧ (fr.getD 1 0#8).toNat ≤ 62 ∧
      fr.length = (fr.getD 1 0#8).toNat + 2 ∧ fr.length ≤ 64 ∧
      fr.getD ((fr.getD 1 0#8).toNat + 1) 0#8 = crc8 ((fr.drop 1).take (fr.getD 1 0#8).toNat)

/-- Words written out from the spec's encodings decode to the operations they stand for. -/
def Obligations.SampleWordsDecode : Prop :=
  decode (.frame [0xC8#8, 0x04#8, 0x07#8, 0x00#8, 0x0F#8, 0x9F#8]) = .ok (.decVario [0x00#8, 0x0F#8]) ∧
  decode (.frame [0xC8#8, 0x08#8, 0x1E#8, 0x03#8, 0xE8#8, 0xFC#8, 0x18#8, 0x7F#8, 0xFF#8, 0x30#8]) =
    .ok (.decAttitude [0x03#8, 0xE8#8, 0xFC#8, 0x18#8, 0x7F#8, 0xFF#8]) ∧
  decode (.frame [0xC8#8, 0x03#8, 0x3A#8, 0x01#8, 0xCE#8]) = .ok (.decUnknown 0x3A#8 [0x01#8]) ∧
  decode (.frame [0xC8#8, 0x02#8, 0x00#8, 0x17#8]) = .error .crcMismatch ∧
  decode (.frame [0xC8#8, 0x3F#8, 0xC8#8]) = .error .badLength ∧
  decode (.step .crcBad) = .ok .crcReject ∧ decode (.transaction (.push 0xC8#8)) = .ok (.push 0xC8#8)

/-! ### The synchronizer: classes, quiescence, determinism -/

/-- Each class of the buffer has exactly the condition of the table of R111, and selects the step of its row. -/
def Obligations.ClassesHaveTheConditionsOfTheTable : Prop :=
  ∀ s : State,
    (classOf s = .waitSync ↔ s.buf = []) ∧
    (classOf s = .notSync ↔
      ∃ b rest, s.buf = b :: rest ∧ b ≠ 0xC8#8 ∧ ¬(b = 0x0F#8 ∧ sbusEnabled s)) ∧
    (classOf s = .waitLen ↔ s.buf = [0xC8#8]) ∧
    (classOf s = .badLen ↔ ∃ L rest, s.buf = 0xC8#8 :: L :: rest ∧ (L.toNat < 2 ∨ 62 < L.toNat)) ∧
    (classOf s = .waitBody ↔
      (∃ L rest, s.buf = 0xC8#8 :: L :: rest ∧ 2 ≤ L.toNat ∧ L.toNat ≤ 62 ∧ s.buf.length < L.toNat + 2) ∨
      (sbusEnabled s ∧ ∃ rest, s.buf = 0x0F#8 :: rest ∧ s.buf.length < 25)) ∧
    (classOf s = .crcOk ↔
      ∃ L body c rest, s.buf = 0xC8#8 :: L :: (body ++ c :: rest) ∧ 2 ≤ L.toNat ∧ L.toNat ≤ 62 ∧
        body.length + 1 = L.toNat ∧ c = crc8 (L :: body)) ∧
    (classOf s = .crcBad ↔
      ∃ L body c rest, s.buf = 0xC8#8 :: L :: (body ++ c :: rest) ∧ 2 ≤ L.toNat ∧ L.toNat ≤ 62 ∧
        body.length + 1 = L.toNat ∧ c ≠ crc8 (L :: body)) ∧
    (classOf s = .sbusOk ↔
      sbusEnabled s ∧ ∃ fr rest, s.buf = fr ++ rest ∧ fr.length = 25 ∧ fr.head? = some 0x0F#8 ∧
        Config.sbusValid fr = true) ∧
    (classOf s = .sbusBad ↔
      sbusEnabled s ∧ ∃ fr rest, s.buf = fr ++ rest ∧ fr.length = 25 ∧ fr.head? = some 0x0F#8 ∧
        Config.sbusValid fr = false) ∧
    (∀ c i, decodeStep c = .ok i ↔ (c, i) ∈ [(StepClass.notSync, Instr.drop), (.badLen, .lenReject),
      (.crcOk, .emit), (.crcBad, .crcReject), (.sbusOk, .sbusAccept), (.sbusBad, .sbusReject)])

/-- The shapes of the buffer in a quiescent state; a PUSH there never overflows (R24). -/
def Obligations.QuiescentBuffersHaveThreeShapes : Prop :=
  ∀ s : State,
    (quiescent s = true ↔
      s.buf = [] ∨ s.buf = [0xC8#8] ∨
      (∃ L xs, s.buf = 0xC8#8 :: L :: xs ∧ 2 ≤ L.toNat ∧ L.toNat ≤ 62 ∧ xs.length < L.toNat) ∨
      (sbusEnabled s ∧ ∃ xs, s.buf = 0x0F#8 :: xs ∧ s.buf.length < 25)) ∧
    (quiescent s = true → s.buf.length ≤ 63 ∧ ∀ b t, exec (.push b) s = .next t → t.buf.length ≤ 64)

/-- At most one engine step is enabled in a state (R151). -/
def Obligations.AtMostOneEngineStepIsEnabled : Prop :=
  ∀ (s t u : State) (i j : Instr), i ∈ engineSteps → j ∈ engineSteps →
    exec i s = .next t → t ≠ s → exec j s = .next u → u ≠ s → i = j

/-! ### The engine's steps -/

/-- DROP consumes a front byte that is no enabled sync byte and counts it, and does nothing else, room or no room in
`evq` (R144). -/
def Obligations.DropConsumesOneNonSyncByte : Prop :=
  ∀ (s : State) (b : Byte) (rest : List Byte), s.buf = b :: rest → b ≠ 0xC8#8 →
    ¬(b = 0x0F#8 ∧ sbusEnabled s) →
    ∃ t, exec .drop s = .next t ∧ t.bytesConsumed.toNat = sat (s.bytesConsumed.toNat + 1) ∧
      t = { s with buf := rest, bytesConsumed := t.bytesConsumed }

/-- LEN_REJECT counts, reports and consumes only the sync byte of a candidate whose length byte is below 2 or above 62
(R145). -/
def Obligations.LenRejectConsumesOnlyTheSyncByte : Prop :=
  ∀ (s : State) (L : Byte) (rest : List Byte), s.buf = 0xC8#8 :: L :: rest → (L.toNat < 2 ∨ 62 < L.toNat) →
    roomForEvent s →
    signals .lenReject s = some .malformedLength ∧
    ∃ t, exec .lenReject s = .next t ∧
      t.framesRejected.toNat = sat (s.framesRejected.toNat + 1) ∧
      t.bytesConsumed.toNat = sat (s.bytesConsumed.toNat + 1) ∧
      t = { s with
        buf := L :: rest
        evq := queued s (.rejected .crsf .malformedLength)
        framesRejected := t.framesRejected
        bytesConsumed := t.bytesConsumed }

/-- CRC_REJECT counts, reports and consumes only the sync byte of a complete candidate whose CRC byte differs (R146). -/
def Obligations.CrcRejectConsumesOnlyTheSyncByte : Prop :=
  ∀ (s : State) (L c : Byte) (body rest : List Byte),
    s.buf = 0xC8#8 :: L :: (body ++ c :: rest) → 2 ≤ L.toNat → L.toNat ≤ 62 → body.length + 1 = L.toNat →
    c ≠ crc8 (L :: body) → roomForEvent s →
    signals .crcReject s = some .crcMismatch ∧
    ∃ t, exec .crcReject s = .next t ∧
      t.framesRejected.toNat = sat (s.framesRejected.toNat + 1) ∧
      t.bytesConsumed.toNat = sat (s.bytesConsumed.toNat + 1) ∧
      t = { s with
        buf := L :: (body ++ c :: rest)
        evq := queued s (.rejected .crsf .crcMismatch)
        framesRejected := t.framesRejected
        bytesConsumed := t.bytesConsumed }

/-- EMIT on a valid frame at the front: what the decoder selected by the type byte does, together with the count, the
FrameAccepted event with the payload, and the consumption of the whole frame (R147). -/
def Obligations.EmitDecodesCountsReportsAndConsumes : Prop :=
  ∀ (s : State) (ty : Byte) (payload rest : List Byte), payload.length ≤ 60 →
    s.buf = frame ty payload ++ rest → roomForEvent s →
    ∃ (u t : State) (image : Vector Byte 60), exec (decodeType ty payload) s = .next u ∧ exec .emit s = .next t ∧
      signals .emit s = signals (decodeType ty payload) s ∧
      (∀ j (hj : j < 60), image[j] = payload.getD j 0#8) ∧
      t.framesValidated.toNat = sat (s.framesValidated.toNat + 1) ∧
      t.bytesConsumed.toNat = sat (s.bytesConsumed.toNat + (payload.length + 4)) ∧
      t = { u with
        buf := rest
        evq := queued s (.accepted .crsf ty (BitVec.ofNat 6 payload.length) image)
        framesValidated := t.framesValidated
        bytesConsumed := t.bytesConsumed }

/-- The two steps of a complete S.Bus candidate, as the open predicate judges it: SBUS_ACCEPT counts, reports with the
fields SBUS_DECODE gives, commits the records it gives, and consumes 25 bytes; SBUS_REJECT counts, reports
MalformedLength and consumes one byte. The step not selected changes nothing. It holds for every value of the open
parameters; which records an accepted frame commits is the model's own form for SBUS_DECODE (log 6). -/
def Obligations.SbusCandidateIsAcceptedOrRejected : Prop :=
  ∀ (s : State) (fr rest : List Byte), sbusEnabled s → s.buf = fr ++ rest → fr.length = 25 →
    fr.head? = some 0x0F#8 → roomForEvent s →
    ∃ ta tr : State,
      exec .sbusAccept s = .next (if Config.sbusValid fr = true then ta else s) ∧
      exec .sbusReject s = .next (if Config.sbusValid fr = true then s else tr) ∧
      ta.framesValidated.toNat = sat (s.framesValidated.toNat + 1) ∧
      ta.bytesConsumed.toNat = sat (s.bytesConsumed.toNat + 25) ∧
      ta = { s with
        buf := rest
        evq := queued s (.accepted .sbus (Config.sbusEvent fr).type (Config.sbusEvent fr).plen
          (Config.sbusEvent fr).payload)
        framesValidated := ta.framesValidated
        bytesConsumed := ta.bytesConsumed
        results := applySbusWrites (Config.sbusWrites fr s.results) s.results } ∧
      tr.framesRejected.toNat = sat (s.framesRejected.toNat + 1) ∧
      tr.bytesConsumed.toNat = sat (s.bytesConsumed.toNat + 1) ∧
      tr = { s with
        buf := fr.tail ++ rest
        evq := queued s (.rejected .sbus .malformedLength)
        framesRejected := tr.framesRejected
        bytesConsumed := tr.bytesConsumed }

/-- Without S.Bus, or with `SBUS_EN` clear, no S.Bus step exists and `0x0F` is an ordinary byte (R141). -/
def Obligations.SbusStepsExistOnlyWhenEnabled : Prop :=
  ∀ s : State, ¬sbusEnabled s →
    exec .sbusAccept s = .next s ∧ exec .sbusReject s = .next s ∧
      (s.buf.head? = some 0x0F#8 → classOf s = .notSync)

/-- While `evq` is full and events are on, no emitting step changes anything, and a PUSH is not accepted behind one; a
POP, a WRITE that clears `EV_EN` and a RESET each lift the hold; DROP is never held (R150). -/
def Obligations.FullQueueHoldsTheEmittingSteps : Prop :=
  ∀ s : State, s.ctrl.evEn = true → s.evq.length = s.params.evDepth → 1 ≤ s.params.evDepth →
    (∀ i ∈ [Instr.lenReject, .crcReject, .emit, .sbusAccept, .sbusReject], exec i s = .next s) ∧
    (emits (classOf s) = true → held s = true ∧ ∀ b, exec (.push b) s = .next s) ∧
    (∀ t, exec .pop s = .next t → held t = false) ∧
    (∀ (d : Word) t, d.getLsbD 0 = false → exec (.write 0 d) s = .next t → held t = false) ∧
    (∀ t, exec .reset s = .next t → held t = false) ∧
    (classOf s = .notSync → held s = false)

/-- An engine turn that is neither waiting nor held consumes bytes from the front, all counted: `L + 2` for an accepted
CRSF frame, 25 for an accepted S.Bus frame, and 1 otherwise (R30, the rows of BYTES_CONSUMED). -/
def Obligations.EveryEngineStepConsumesAndCounts : Prop :=
  ∀ s : State, quiescent s = false → held s = false →
    ∃ n, n = (if classOf s = .crcOk then (s.buf.getD 1 0#8).toNat + 2 else if classOf s = .sbusOk then 25 else 1) ∧
      1 ≤ n ∧ n ≤ s.buf.length ∧ (engineTurn s).buf = s.buf.drop n ∧
      (engineTurn s).bytesConsumed.toNat = sat (s.bytesConsumed.toNat + n)

/-- A run of `n` bytes that are no enabled sync byte takes `n` DROP steps and leaves only the count (R144). -/
def Obligations.NoiseIsDroppedByteByByte : Prop :=
  ∀ (noise rest : List Byte) (s : State), s.buf = noise ++ rest →
    (∀ b ∈ noise, b ≠ 0xC8#8 ∧ ¬(b = 0x0F#8 ∧ sbusEnabled s)) →
    ∃ c : Word, c.toNat = sat (s.bytesConsumed.toNat + noise.length) ∧
      engineTurn^[noise.length] s = { s with buf := rest, bytesConsumed := c }

/-- A bad length byte is rejected without consuming the frame behind it: the third engine turn accepts that frame
(R145, the property it quotes). -/
def Obligations.FrameBehindABadLengthIsStillDetected : Prop :=
  ∀ (s : State) (L ty : Byte) (payload rest : List Byte), payload.length ≤ 60 →
    (L.toNat < 2 ∨ 62 < L.toNat) → s.buf = 0xC8#8 :: L :: (frame ty payload ++ rest) →
    (s.ctrl.evEn = false ∨ s.evq.length + 3 ≤ s.params.evDepth) →
    (engineTurn^[3] s).buf = rest ∧
      (engineTurn^[3] s).framesValidated.toNat = sat (s.framesValidated.toNat + 1) ∧
      (engineTurn^[3] s).framesRejected.toNat =
        sat (s.framesRejected.toNat + if L = 0xC8#8 then 2 else 1)

/-- In a quiescent state nothing but RESET takes a byte out of the buffer: a pending candidate stays until its last byte
arrives (R154). -/
def Obligations.NoOperationDiscardsAPendingCandidate : Prop :=
  ∀ (i : Instr) (s t : State), quiescent s = true → i ≠ .reset → exec i s = .next t →
    t.buf = s.buf ∨ ∃ b, i = .push b ∧ t.buf = s.buf ++ [b]

/-- SETTLE ends in a quiescent state. -/
def Obligations.SettleReachesQuiescence : Prop := ∀ s : State, StateInv s → quiescent (settle s) = true

/-! ### Feeding bytes -/

/-- Feeding a sequence at once or in two chunks gives the same state, the popped events in its log included, and an
event popped before the bytes are fed makes no difference (R156). -/
def Obligations.FeedIsChunkInvariant : Prop :=
  ∀ (s : State) (xs ys : List Byte), StateInv s →
    feed (xs ++ ys) s = feed ys (feed xs s) ∧ feed xs (perform .pop s) = feed xs s

/-! ### Counters, records and events over all operations -/

/-- The error an operation signals is exactly what it counts (R220): MalformedLength and CrcMismatch in
`FRAMES_REJECTED`, PayloadTooShort in `PAYLOAD_TOO_SHORT`; an accepted frame counts in `FRAMES_VALIDATED`. -/
def Obligations.SignalsAreWhatTheCountersCount : Prop :=
  ∀ (i : Instr) (s t : State), i ≠ .reset → exec i s = .next t →
    t.framesRejected.toNat =
      (if signals i s = some .malformedLength ∨ signals i s = some .crcMismatch
        then sat (s.framesRejected.toNat + 1) else s.framesRejected.toNat) ∧
    t.payloadTooShort.toNat =
      (if signals i s = some .payloadTooShort
        then sat (s.payloadTooShort.toNat + 1) else s.payloadTooShort.toNat) ∧
    t.framesValidated.toNat =
      (if held s = false ∧ ((i = .emit ∧ classOf s = .crcOk) ∨ (i = .sbusAccept ∧ classOf s = .sbusOk))
        then sat (s.framesValidated.toNat + 1) else s.framesValidated.toNat)

/-- No operation but RESET lowers a counter, and only engine steps and the decoders inside them change one (R30). -/
def Obligations.OnlyResetLowersACounter : Prop :=
  ∀ (i : Instr) (s t : State), exec i s = .next t →
    (i ≠ .reset →
      s.framesValidated.toNat ≤ t.framesValidated.toNat ∧ s.framesRejected.toNat ≤ t.framesRejected.toNat ∧
      s.bytesConsumed.toNat ≤ t.bytesConsumed.toNat ∧ s.payloadTooShort.toNat ≤ t.payloadTooShort.toNat) ∧
    (isHostOrPrimitive i = true →
      t.framesValidated = s.framesValidated ∧ t.framesRejected = s.framesRejected ∧
      t.bytesConsumed = s.bytesConsumed ∧ t.payloadTooShort = s.payloadTooShort)

/-- A group's registers change only by its own decoder, alone or inside EMIT, by RESET, or by an accepted S.Bus frame,
whose register effect is open (R31 to R37; log 6). -/
def Obligations.OnlyItsDecoderWritesARecord : Prop :=
  ∀ (i : Instr) (s t : State) (g : ResultGroup), exec i s = .next t → ¬sameRecord g s.results t.results →
    i = .reset ∨ (∃ p, i = decodeType (groupType g) p) ∨
      (i = .emit ∧ classOf s = .crcOk ∧ s.buf.getD 2 0#8 = groupType g) ∨
      (i = .sbusAccept ∧ classOf s = .sbusOk)

/-- But for RESET, a group's sequence counter gains 1 in the step that writes the group and stays otherwise, and its
`REC_VALID` bit is set in that step and never cleared (R38, R39). That an accepted S.Bus frame commits every record it
writes is the model's own form of SBUS_DECODE (log 6). -/
def Obligations.SequenceCountersMarkEveryCommit : Prop :=
  ∀ (i : Instr) (s t : State) (g : ResultGroup), i ≠ .reset → exec i s = .next t →
    (seqOf g t.results.seq = seqOf g s.results.seq ∧ sameRecord g s.results t.results ∧
      ∀ k, g = .telemetry k →
        t.results.recValid.getLsbD (kindBit k) = s.results.recValid.getLsbD (kindBit k)) ∨
    (seqOf g t.results.seq = seqOf g s.results.seq + 1#32 ∧
      ∀ k, g = .telemetry k → t.results.recValid.getLsbD (kindBit k) = true)

/-- No operation changes the parameters or the environment's queues, or takes back a response, and `CTRL` changes only by
a WRITE of word 0 or a RESET (R44). The environment's fields are the model's own (logs 1 and 2). -/
def Obligations.ParametersNeverChange : Prop :=
  ∀ (i : Instr) (s t : State), exec i s = .next t →
    t.params = s.params ∧ t.sched = s.sched ∧ t.source = s.source ∧ t.requests = s.requests ∧
    (∃ new, new.length ≤ 1 ∧ t.log = s.log ++ new) ∧
    (t.ctrl ≠ s.ctrl → i = .reset ∨ ∃ d, i = .write 0 d)

/-- Events enter `evq` at the end, one at most in a step, and leave it at the front, by POP or all at once by RESET
(R64). -/
def Obligations.EventsEnterAndLeaveInOrder : Prop :=
  ∀ (i : Instr) (s t : State), i ≠ .reset → exec i s = .next t →
    (i ≠ .pop → ∃ new, new.length ≤ 1 ∧ t.evq = s.evq ++ new) ∧ (i = .pop → t.evq = s.evq.tail)

/-! ### The register window and the transactions -/

/-- A reserved word reads 0, and a WRITE to any word but `CTRL` changes nothing (R69). -/
def Obligations.ReservedWordsReadZeroAndIgnoreWrites : Prop :=
  ∀ s : State,
    (∀ i, i < 128 → i = 7 ∨ i = 15 ∨ (32 ≤ i ∧ i ≤ 63) ∨ i = 71 ∨ i = 98 ∨ i = 99 ∨ 101 ≤ i →
      readAnswers i s (fun w => w = 0#32)) ∧
    (∀ (i : BitVec 7) (d : Word), i ≠ 0#7 → exec (.write i d) s = .next s)

/-- READ of the counter words, of `REC_VALID` and of the `SEQ` words (R101, R102). -/
def Obligations.ReadAnswersTheCounterWords : Prop :=
  ∀ s : State,
    readAnswers 2 s (fun w => w = s.framesValidated) ∧ readAnswers 3 s (fun w => w = s.framesRejected) ∧
    readAnswers 4 s (fun w => w = s.bytesConsumed) ∧ readAnswers 5 s (fun w => w = s.payloadTooShort) ∧
    readAnswers 6 s (fun w => w.toNat = s.results.recValid.toNat) ∧
    readAnswers 8 s (fun w => w = s.results.seq.channels) ∧
    readAnswers 9 s (fun w => w = s.results.seq.linkStat) ∧
    readAnswers 10 s (fun w => w = s.results.seq.attitude) ∧
    readAnswers 11 s (fun w => w = s.results.seq.flightMode) ∧
    readAnswers 12 s (fun w => w = s.results.seq.battery) ∧
    readAnswers 13 s (fun w => w = s.results.seq.gps) ∧ readAnswers 14 s (fun w => w = s.results.seq.vario)

/-- READ of `CH[k]`: `RAW` in bits 10:0, its microsecond value in bits 26:16, the other bits 0 (R103). -/
def Obligations.ReadAnswersTheChannelWords : Prop :=
  ∀ (s : State) k (hk : k < 16),
    readAnswers (16 + k) s (fun w =>
      w.extractLsb' 0 11 = s.results.chRaw[k] ∧ w.extractLsb' 11 5 = 0#5 ∧
        (w.extractLsb' 16 11).toNat = 988 + s.results.chRaw[k].toNat * 1024 / 2047 ∧ w.extractLsb' 27 5 = 0#5)

/-- READ of the telemetry field words: signed fields sign-extended, unsigned ones zero-extended (R104). -/
def Obligations.ReadAnswersTheTelemetryWords : Prop :=
  ∀ s : State,
    readAnswers 64 s (fun w => w.toInt = s.results.linkStat.rssi1.toInt) ∧
    readAnswers 65 s (fun w => w.toInt = s.results.linkStat.rssi2.toInt) ∧
    readAnswers 66 s (fun w => w.toNat = s.results.linkStat.lq.toNat) ∧
    readAnswers 67 s (fun w => w.toNat = s.results.linkStat.mode.toNat) ∧
    readAnswers 68 s (fun w => w.toInt = s.results.attitude.pitch.toInt) ∧
    readAnswers 69 s (fun w => w.toInt = s.results.attitude.roll.toInt) ∧
    readAnswers 70 s (fun w => w.toInt = s.results.attitude.yaw.toInt) ∧
    readAnswers 88 s (fun w => w.toInt = s.results.battery.voltage.toInt) ∧
    readAnswers 89 s (fun w => w.toInt = s.results.battery.current.toInt) ∧
    readAnswers 90 s (fun w => w.toNat = s.results.battery.mah.toNat) ∧
    readAnswers 91 s (fun w => w.toNat = s.results.battery.percent.toNat) ∧
    readAnswers 92 s (fun w => w.toInt = s.results.gps.lat.toInt) ∧
    readAnswers 93 s (fun w => w.toInt = s.results.gps.lon.toInt) ∧
    readAnswers 94 s (fun w => w.toInt = s.results.gps.gspd.toInt) ∧
    readAnswers 95 s (fun w => w.toInt = s.results.gps.hdg.toInt) ∧
    readAnswers 96 s (fun w => w.toInt = s.results.gps.alt.toInt) ∧
    readAnswers 97 s (fun w => w.toNat = s.results.gps.sats.toNat) ∧
    readAnswers 100 s (fun w => w.toInt = s.results.vario.vspd.toInt)

/-- READ of `FM_LEN` and of `FM_STR[j]`, string byte `4j + i` in bits `8i+7 : 8i` (R105). -/
def Obligations.ReadAnswersTheFlightModeWords : Prop :=
  ∀ s : State, StateInv s →
    readAnswers 72 s (fun w => w.toNat = s.results.flightMode.len.toNat ∧ w.toNat ≤ 60) ∧
    ∀ j, j < 15 → readAnswers (73 + j) s (fun w => ∀ i (hi : i < 4) (hij : 4 * j + i < 60),
      w.extractLsb' (8 * i) 8 = s.results.flightMode.str[4 * j + i] ∧
        (s.results.flightMode.len.toNat ≤ 4 * j + i → w.extractLsb' (8 * i) 8 = 0#8))

/-- READ of `STATUS`: every field where R100 places it, with the value R42 and the table of R143 give it. -/
def Obligations.ReadAnswersTheStatusWord : Prop :=
  ∀ s : State, StateInv s → readAnswers 1 s (fun w =>
    (w.extractLsb' 0 3).toNat =
      (match classOf s with
        | .waitSync => 0 | .notSync => 0 | .waitLen => 1 | .badLen => 1 | .waitBody => 2
        | .crcOk => 3 | .sbusOk => 3 | .crcBad => 4 | .sbusBad => 4) ∧
    (w.getLsbD 3 = true ↔ classOf s = .waitSync ∨ classOf s = .waitLen ∨ classOf s = .waitBody) ∧
    (w.getLsbD 4 = true ↔ s.buf.head? = some 0x0F#8 ∧ sbusEnabled s) ∧
    (w.getLsbD 5 = true ↔ s.evq.length = s.params.evDepth) ∧
    w.extractLsb' 6 2 = 0#2 ∧ (w.extractLsb' 8 7).toNat = s.buf.length ∧ w.getLsbD 15 = false ∧
    (w.extractLsb' 16 8).toNat = s.evq.length ∧
    (∀ L rest, s.buf = 0xC8#8 :: L :: rest → w.extractLsb' 24 8 = L) ∧
    ((∀ L rest, s.buf ≠ 0xC8#8 :: L :: rest) → w.extractLsb' 24 8 = 0#8))

/-- WRITE of word 0 sets `EV_EN`, and `SBUS_EN` where S.Bus is implemented; READ of word 0 gives the two fields and zeros
(R201, R99). -/
def Obligations.WriteAndReadOfTheControlWord : Prop :=
  ∀ (s : State) (d : Word), StateInv s →
    (∃ t, exec (.write 0#7 d) s = .next t ∧ t.ctrl.evEn = d.getLsbD 0 ∧
      t.ctrl.sbusEn = (s.params.sbusImpl && d.getLsbD 1) ∧ t = { s with ctrl := t.ctrl }) ∧
    readAnswers 0 s (fun w => w.getLsbD 0 = s.ctrl.evEn ∧ w.getLsbD 1 = s.ctrl.sbusEn ∧ w.extractLsb' 2 30 = 0#30)

/-- PUSH appends its byte exactly when `in_ready`, that is in the quiescent states, and then the buffer has room; else
nothing changes (R160, R161). -/
def Obligations.PushAppendsExactlyWhenReady : Prop :=
  ∀ (s : State) (b : Byte),
    (quiescent s = true →
      exec (.push b) s = .next { s with buf := s.buf ++ [b] } ∧ s.buf.length + 1 ≤ 64) ∧
    (quiescent s = false → exec (.push b) s = .next s)

/-- POP answers the 512-bit record at the head of `evq` and removes it; on an empty `evq` nothing changes (R203). -/
def Obligations.PopAnswersTheOldestRecord : Prop :=
  ∀ s : State,
    (∀ e rest, s.evq = e :: rest →
      exec .pop s = .next { s with evq := rest, log := s.log ++ [.event (eventBits e)] }) ∧
    (s.evq = [] → exec .pop s = .next s)

/-- The places of the fields of an event record (R97) and the reason codes (R98). That REASON and the reserved bits of an
accepted S.Bus frame's record are 0 too is the model's own reading of SBUS_DECODE (log 5). -/
def Obligations.EventRecordsHaveTheirFields : Prop :=
  (∀ (d : Dialect) (ty : Byte) (n : BitVec 6) (p : Vector Byte 60),
    let w := eventBits (.accepted d ty n p)
    w.getLsbD 0 = false ∧ w.getLsbD 1 = decide (d = .sbus) ∧ w.extractLsb' 2 2 = 0#2 ∧
      w.extractLsb' 4 4 = 0#4 ∧ w.extractLsb' 8 8 = ty ∧ w.extractLsb' 16 6 = n ∧ w.extractLsb' 22 10 = 0#10 ∧
      ∀ j (hj : j < 60), w.extractLsb' (32 + 8 * j) 8 = p[j]) ∧
  (∀ (d : Dialect) (r : Reason),
    let w := eventBits (.rejected d r)
    w.getLsbD 0 = true ∧ w.getLsbD 1 = decide (d = .sbus) ∧
      w.extractLsb' 2 2 = (if r = .malformedLength then 1#2 else 2#2) ∧ w.extractLsb' 4 508 = 0#508)

/-- RESET, at any state: an empty buffer and queue, `CTRL` with `EV_EN` alone, every word of the window at its reset value,
and the engine quiescent (R240, R41). That the parameters and the environment's fields stay is the model's choice
(log 18). -/
def Obligations.ResetPutsEveryElementAtItsValue : Prop :=
  ∀ s : State, s.params.wf = true → ∃ t, exec .reset s = .next t ∧
    t.buf = [] ∧ t.evq = [] ∧ t.ctrl.evEn = true ∧ t.ctrl.sbusEn = false ∧ quiescent t = true ∧
    (∀ k (hk : k < 16), t.results.chRaw[k] = 1024#11) ∧
    (∀ i, i < 128 → readAt t i =
      if i = 0 then 1#32 else if i = 1 then 8#32 else if 16 ≤ i ∧ i ≤ 31 then 0x05DC0400#32 else 0#32) ∧
    t.params = s.params ∧ t.sched = s.sched ∧ t.source = s.source ∧ t.requests = s.requests ∧ t.log = s.log

/-- The host calls are separate READs. The `j`-th READ answers what its word holds after the machine's steps before it,
whatever was read in between, so a record can be torn (R62, R205, R207). `current_telemetry(kind)` is none exactly while
the kind's `REC_VALID` bit is 0 when it is read, and a state of the invariant without a record reads 0 in each of the
kind's words (R206; 70_reset R250). With the SEQ protocol, fewer than `2^32` steps and no RESET among the host's requests,
the words a group answers all come from the state of the first READ (R70). For S.Bus instances the last two clauses rest
on the model's own form of SBUS_DECODE (log 6), and the number of steps before a READ is the model's way to say how the
agents interleave (log 29). -/
def Obligations.TelemetryIsNoneExactlyWithoutARecord : Prop :=
  (∀ (indices gaps : List Nat) (s : State) (j : Nat), j < indices.length →
    (readEach indices gaps s).1[j]? =
      some (readAt (runSteps (gaps.take (j + 1)).sum s) (indices.getD j 0))) ∧
  (∀ (k : Kind) (gaps : List Nat) (s u : State), u = runSteps (gaps.headD 0) s →
    (u.results.recValid.getLsbD (kindBit k) = false → (currentTelemetry k gaps s).1 = none) ∧
    (u.results.recValid.getLsbD (kindBit k) = true →
      (currentTelemetry k gaps s).1 =
        some (readEach (kindWords k) gaps.tail { u with log := u.log ++ [.data (readAt u 6)] }).1) ∧
    (StateInv u → u.results.recValid.getLsbD (kindBit k) = false → ∀ i ∈ kindWords k, readAt u i = 0#32)) ∧
  (∀ (g : ResultGroup) (gaps : List Nat) (s : State) (words : List Word),
    Request.reset ∉ s.requests → gaps.sum < 2 ^ 32 → (consistentRead g gaps s).1 = some words →
    words = (groupWords g).map (readAt (runSteps (gaps.headD 0) s)))

/-! ### Steps, runs and the invariant -/

/-- A step runs the operation the agent whose turn it is offers, on the state in which the turn is over; where nothing
is enabled, only the turn passes (00_scope R18). The engine offers the class of its buffer (30_encoding R111,
42_synchronizer R140), the event consumer POP and the host its next request (30_encoding R107), the byte source a PUSH of
its next byte, which it keeps while the block does not take it (42_synchronizer R160). How the turns are held is the
model's choice (log 1). -/
def Obligations.StepRunsTheDecodedOperation : Prop :=
  ∀ (s : State),
    (∀ c i, fetch s = some c → decode c = .ok i → step s = exec i (endTurn s)) ∧
    (∀ c e, fetch s = some c → decode c = .error e → step s = .next (endTurn s)) ∧
    (fetch s = none → step s = .next (endTurn s)) ∧
    (∀ rest, s.sched = .engine :: rest ∨ (s.sched = [] ∧ rest = []) →
      fetch s = some (.step (classOf s)) ∧ endTurn s = { s with sched := rest }) ∧
    (∀ rest, s.sched = .eventConsumer :: rest → step s = exec .pop { s with sched := rest }) ∧
    (∀ rest r more, s.sched = .host :: rest → s.requests = r :: more →
      step s = exec (match r with
        | .read i => .read i
        | .write i d => .write i d
        | .reset => .reset) { s with sched := rest, requests := more }) ∧
    (∀ rest, s.sched = .host :: rest → s.requests = [] → step s = .next { s with sched := rest }) ∧
    (∀ rest b more, s.sched = .byteSource :: rest → s.source = b :: more →
      step s = exec (.push b)
        { s with sched := rest, source := if quiescent s = true then more else b :: more }) ∧
    (∀ rest, s.sched = .byteSource :: rest → s.source = [] → step s = .next { s with sched := rest })

/-- The byte source's turn: the byte enters the buffer when `in_ready`, and else stays with the source (R160). -/
def Obligations.RefusedBytesStayWithTheSource : Prop :=
  ∀ (s : State) (turns : List Agent) (b : Byte) (bytes : List Byte),
    s.sched = .byteSource :: turns → s.source = b :: bytes →
    (quiescent s = true →
      step s = .next { s with sched := turns, source := bytes, buf := s.buf ++ [b] }) ∧
    (quiescent s = false → step s = .next { s with sched := turns })

/-- No operation and no step of the block faults or halts: every step answers a next state, and a quiescent engine left
alone changes nothing (R16, R158). -/
def Obligations.EveryStepAnswersANextState : Prop :=
  (∀ (i : Instr) (s : State), ∃ t, exec i s = .next t) ∧ (∀ s : State, ∃ t, step s = .next t) ∧
    (∀ s : State, s.sched = [] → quiescent s = true → step s = .next s)

/-- With `evq` full, events on and an emitting class at the front, turns of the engine and the byte source alone never
change the block again (R244). -/
def Obligations.WithoutAConsumerAHeldEngineHangs : Prop :=
  ∀ (k : Nat) (s : State), s.ctrl.evEn = true → s.evq.length = s.params.evDepth → emits (classOf s) = true →
    (∀ a ∈ s.sched, a = .engine ∨ a = .byteSource) →
    sameBlock s (runSteps k s) ∧ (runSteps k s).source = s.source

/-- The state after reset satisfies the invariant (R41). -/
def Obligations.ResetSatisfiesTheInvariant : Prop := StateInv State.reset

/-- Every step keeps the bounds and relations of the state's elements: the buffer at most 64 bytes, `evq` at most
`EV_DEPTH` records, the FlightMode string padded with zeros, records at their reset values until their `REC_VALID` bit
is set, and the others of `StateInv`. On S.Bus instances the clause about records rests on the model's own form of
SBUS_DECODE, which sets `REC_VALID` and `SEQ` with every record it writes (log 6). -/
def Obligations.EveryStepKeepsTheInvariant : Prop :=
  ∀ s t : State, StateInv s → step s = .next t → StateInv t

/-! ### The ring form of the buffer -/

/-- The ring form holds the logical sequence: its append and its consume are the append and the consume of `buf`, and
`LEVEL` is its length (R23). -/
def Obligations.RingFormRefinesTheBuffer : Prop :=
  ∀ r : RingForm, ringWf r = true →
    (ringBuf r).length = r.level.toNat ∧
    (∀ b, r.level.toNat < 64 → ringWf (ringAppend r b) = true ∧
      ringBuf (ringAppend r b) = memAppend (ringBuf r) b) ∧
    (∀ n, n ≤ r.level.toNat → ringWf (ringConsume r n) = true ∧
      ringBuf (ringConsume r n) = memConsume (ringBuf r) n)
end

