-- ==== Sys2Proof/Laws/State.lean ====
section
/-! SUPPORT. One lemma per field per update of State, so that no later proof unfolds a record update. -/

namespace Sys2Proof.Machine

/-! ### consumeBytes -/

@[simp] theorem consumeBytes_params (n : Nat) (s : State) :
    (consumeBytes n s).params = s.params := rfl

@[simp] theorem consumeBytes_buf (n : Nat) (s : State) :
    (consumeBytes n s).buf = s.buf.drop n := rfl

@[simp] theorem consumeBytes_evq (n : Nat) (s : State) :
    (consumeBytes n s).evq = s.evq := rfl

@[simp] theorem consumeBytes_ctrl (n : Nat) (s : State) :
    (consumeBytes n s).ctrl = s.ctrl := rfl

@[simp] theorem consumeBytes_framesValidated (n : Nat) (s : State) :
    (consumeBytes n s).framesValidated = s.framesValidated := rfl

@[simp] theorem consumeBytes_framesRejected (n : Nat) (s : State) :
    (consumeBytes n s).framesRejected = s.framesRejected := rfl

@[simp] theorem consumeBytes_bytesConsumed (n : Nat) (s : State) :
    (consumeBytes n s).bytesConsumed = satAdd s.bytesConsumed n := rfl

@[simp] theorem consumeBytes_payloadTooShort (n : Nat) (s : State) :
    (consumeBytes n s).payloadTooShort = s.payloadTooShort := rfl

@[simp] theorem consumeBytes_results (n : Nat) (s : State) :
    (consumeBytes n s).results = s.results := rfl

@[simp] theorem consumeBytes_sched (n : Nat) (s : State) :
    (consumeBytes n s).sched = s.sched := rfl

@[simp] theorem consumeBytes_source (n : Nat) (s : State) :
    (consumeBytes n s).source = s.source := rfl

@[simp] theorem consumeBytes_requests (n : Nat) (s : State) :
    (consumeBytes n s).requests = s.requests := rfl

@[simp] theorem consumeBytes_log (n : Nat) (s : State) :
    (consumeBytes n s).log = s.log := rfl

/-! ### counters -/

@[simp] theorem countValidated_params (s : State) :
    (countValidated s).params = s.params := rfl

@[simp] theorem countValidated_buf (s : State) :
    (countValidated s).buf = s.buf := rfl

@[simp] theorem countValidated_evq (s : State) :
    (countValidated s).evq = s.evq := rfl

@[simp] theorem countValidated_ctrl (s : State) :
    (countValidated s).ctrl = s.ctrl := rfl

@[simp] theorem countValidated_framesValidated (s : State) :
    (countValidated s).framesValidated = satInc s.framesValidated := rfl

@[simp] theorem countValidated_framesRejected (s : State) :
    (countValidated s).framesRejected = s.framesRejected := rfl

@[simp] theorem countValidated_bytesConsumed (s : State) :
    (countValidated s).bytesConsumed = s.bytesConsumed := rfl

@[simp] theorem countValidated_payloadTooShort (s : State) :
    (countValidated s).payloadTooShort = s.payloadTooShort := rfl

@[simp] theorem countValidated_results (s : State) :
    (countValidated s).results = s.results := rfl

@[simp] theorem countValidated_sched (s : State) :
    (countValidated s).sched = s.sched := rfl

@[simp] theorem countValidated_source (s : State) :
    (countValidated s).source = s.source := rfl

@[simp] theorem countValidated_requests (s : State) :
    (countValidated s).requests = s.requests := rfl

@[simp] theorem countValidated_log (s : State) :
    (countValidated s).log = s.log := rfl

@[simp] theorem countRejected_params (s : State) :
    (countRejected s).params = s.params := rfl

@[simp] theorem countRejected_buf (s : State) :
    (countRejected s).buf = s.buf := rfl

@[simp] theorem countRejected_evq (s : State) :
    (countRejected s).evq = s.evq := rfl

@[simp] theorem countRejected_ctrl (s : State) :
    (countRejected s).ctrl = s.ctrl := rfl

@[simp] theorem countRejected_framesValidated (s : State) :
    (countRejected s).framesValidated = s.framesValidated := rfl

@[simp] theorem countRejected_framesRejected (s : State) :
    (countRejected s).framesRejected = satInc s.framesRejected := rfl

@[simp] theorem countRejected_bytesConsumed (s : State) :
    (countRejected s).bytesConsumed = s.bytesConsumed := rfl

@[simp] theorem countRejected_payloadTooShort (s : State) :
    (countRejected s).payloadTooShort = s.payloadTooShort := rfl

@[simp] theorem countRejected_results (s : State) :
    (countRejected s).results = s.results := rfl

@[simp] theorem countRejected_sched (s : State) :
    (countRejected s).sched = s.sched := rfl

@[simp] theorem countRejected_source (s : State) :
    (countRejected s).source = s.source := rfl

@[simp] theorem countRejected_requests (s : State) :
    (countRejected s).requests = s.requests := rfl

@[simp] theorem countRejected_log (s : State) :
    (countRejected s).log = s.log := rfl

@[simp] theorem countTooShort_params (s : State) :
    (countTooShort s).params = s.params := rfl

@[simp] theorem countTooShort_buf (s : State) :
    (countTooShort s).buf = s.buf := rfl

@[simp] theorem countTooShort_evq (s : State) :
    (countTooShort s).evq = s.evq := rfl

@[simp] theorem countTooShort_ctrl (s : State) :
    (countTooShort s).ctrl = s.ctrl := rfl

@[simp] theorem countTooShort_framesValidated (s : State) :
    (countTooShort s).framesValidated = s.framesValidated := rfl

@[simp] theorem countTooShort_framesRejected (s : State) :
    (countTooShort s).framesRejected = s.framesRejected := rfl

@[simp] theorem countTooShort_bytesConsumed (s : State) :
    (countTooShort s).bytesConsumed = s.bytesConsumed := rfl

@[simp] theorem countTooShort_payloadTooShort (s : State) :
    (countTooShort s).payloadTooShort = satInc s.payloadTooShort := rfl

@[simp] theorem countTooShort_results (s : State) :
    (countTooShort s).results = s.results := rfl

@[simp] theorem countTooShort_sched (s : State) :
    (countTooShort s).sched = s.sched := rfl

@[simp] theorem countTooShort_source (s : State) :
    (countTooShort s).source = s.source := rfl

@[simp] theorem countTooShort_requests (s : State) :
    (countTooShort s).requests = s.requests := rfl

@[simp] theorem countTooShort_log (s : State) :
    (countTooShort s).log = s.log := rfl

/-! ### answer -/

@[simp] theorem answer_params (r : Response) (s : State) :
    (answer r s).params = s.params := rfl

@[simp] theorem answer_buf (r : Response) (s : State) :
    (answer r s).buf = s.buf := rfl

@[simp] theorem answer_evq (r : Response) (s : State) :
    (answer r s).evq = s.evq := rfl

@[simp] theorem answer_ctrl (r : Response) (s : State) :
    (answer r s).ctrl = s.ctrl := rfl

@[simp] theorem answer_framesValidated (r : Response) (s : State) :
    (answer r s).framesValidated = s.framesValidated := rfl

@[simp] theorem answer_framesRejected (r : Response) (s : State) :
    (answer r s).framesRejected = s.framesRejected := rfl

@[simp] theorem answer_bytesConsumed (r : Response) (s : State) :
    (answer r s).bytesConsumed = s.bytesConsumed := rfl

@[simp] theorem answer_payloadTooShort (r : Response) (s : State) :
    (answer r s).payloadTooShort = s.payloadTooShort := rfl

@[simp] theorem answer_results (r : Response) (s : State) :
    (answer r s).results = s.results := rfl

@[simp] theorem answer_sched (r : Response) (s : State) :
    (answer r s).sched = s.sched := rfl

@[simp] theorem answer_source (r : Response) (s : State) :
    (answer r s).source = s.source := rfl

@[simp] theorem answer_requests (r : Response) (s : State) :
    (answer r s).requests = s.requests := rfl

@[simp] theorem answer_log (r : Response) (s : State) :
    (answer r s).log = s.log ++ [r] := rfl

/-! ### emitEvent -/

@[simp] theorem emitEvent_params (e : Event) (s : State) :
    (emitEvent e s).params = s.params := by
  unfold emitEvent; split <;> rfl

@[simp] theorem emitEvent_buf (e : Event) (s : State) :
    (emitEvent e s).buf = s.buf := by
  unfold emitEvent; split <;> rfl

@[simp] theorem emitEvent_evq (e : Event) (s : State) :
    (emitEvent e s).evq = if s.ctrl.evEn then s.evq ++ [e] else s.evq := by
  unfold emitEvent; split <;> rfl

@[simp] theorem emitEvent_ctrl (e : Event) (s : State) :
    (emitEvent e s).ctrl = s.ctrl := by
  unfold emitEvent; split <;> rfl

@[simp] theorem emitEvent_framesValidated (e : Event) (s : State) :
    (emitEvent e s).framesValidated = s.framesValidated := by
  unfold emitEvent; split <;> rfl

@[simp] theorem emitEvent_framesRejected (e : Event) (s : State) :
    (emitEvent e s).framesRejected = s.framesRejected := by
  unfold emitEvent; split <;> rfl

@[simp] theorem emitEvent_bytesConsumed (e : Event) (s : State) :
    (emitEvent e s).bytesConsumed = s.bytesConsumed := by
  unfold emitEvent; split <;> rfl

@[simp] theorem emitEvent_payloadTooShort (e : Event) (s : State) :
    (emitEvent e s).payloadTooShort = s.payloadTooShort := by
  unfold emitEvent; split <;> rfl

@[simp] theorem emitEvent_results (e : Event) (s : State) :
    (emitEvent e s).results = s.results := by
  unfold emitEvent; split <;> rfl

@[simp] theorem emitEvent_sched (e : Event) (s : State) :
    (emitEvent e s).sched = s.sched := by
  unfold emitEvent; split <;> rfl

@[simp] theorem emitEvent_source (e : Event) (s : State) :
    (emitEvent e s).source = s.source := by
  unfold emitEvent; split <;> rfl

@[simp] theorem emitEvent_requests (e : Event) (s : State) :
    (emitEvent e s).requests = s.requests := by
  unfold emitEvent; split <;> rfl

@[simp] theorem emitEvent_log (e : Event) (s : State) :
    (emitEvent e s).log = s.log := by
  unfold emitEvent; split <;> rfl

/-! ### rejectCandidate -/

@[simp] theorem rejectCandidate_params (d : Dialect) (r : Reason) (s : State) :
    (rejectCandidate d r s).params = s.params := by
  simp [rejectCandidate]

@[simp] theorem rejectCandidate_buf (d : Dialect) (r : Reason) (s : State) :
    (rejectCandidate d r s).buf = s.buf.drop 1 := by
  simp [rejectCandidate]

@[simp] theorem rejectCandidate_evq (d : Dialect) (r : Reason) (s : State) :
    (rejectCandidate d r s).evq = if s.ctrl.evEn then s.evq ++ [.rejected d r] else s.evq := by
  cases h : s.ctrl.evEn <;> simp [rejectCandidate, h]

@[simp] theorem rejectCandidate_ctrl (d : Dialect) (r : Reason) (s : State) :
    (rejectCandidate d r s).ctrl = s.ctrl := by
  simp [rejectCandidate]

@[simp] theorem rejectCandidate_framesValidated (d : Dialect) (r : Reason) (s : State) :
    (rejectCandidate d r s).framesValidated = s.framesValidated := by
  simp [rejectCandidate]

@[simp] theorem rejectCandidate_framesRejected (d : Dialect) (r : Reason) (s : State) :
    (rejectCandidate d r s).framesRejected = satInc s.framesRejected := by
  simp [rejectCandidate]

@[simp] theorem rejectCandidate_bytesConsumed (d : Dialect) (r : Reason) (s : State) :
    (rejectCandidate d r s).bytesConsumed = satAdd s.bytesConsumed 1 := by
  simp [rejectCandidate]

@[simp] theorem rejectCandidate_payloadTooShort (d : Dialect) (r : Reason) (s : State) :
    (rejectCandidate d r s).payloadTooShort = s.payloadTooShort := by
  simp [rejectCandidate]

@[simp] theorem rejectCandidate_results (d : Dialect) (r : Reason) (s : State) :
    (rejectCandidate d r s).results = s.results := by
  simp [rejectCandidate]

@[simp] theorem rejectCandidate_sched (d : Dialect) (r : Reason) (s : State) :
    (rejectCandidate d r s).sched = s.sched := by
  simp [rejectCandidate]

@[simp] theorem rejectCandidate_source (d : Dialect) (r : Reason) (s : State) :
    (rejectCandidate d r s).source = s.source := by
  simp [rejectCandidate]

@[simp] theorem rejectCandidate_requests (d : Dialect) (r : Reason) (s : State) :
    (rejectCandidate d r s).requests = s.requests := by
  simp [rejectCandidate]

@[simp] theorem rejectCandidate_log (d : Dialect) (r : Reason) (s : State) :
    (rejectCandidate d r s).log = s.log := by
  simp [rejectCandidate]

/-! ### lengthChecked -/

@[simp] theorem lengthChecked_params (m : Nat) (p : List Byte) (w : Results → Results) (s : State) :
    (lengthChecked m p w s).params = s.params := by
  unfold lengthChecked; split <;> rfl

@[simp] theorem lengthChecked_buf (m : Nat) (p : List Byte) (w : Results → Results) (s : State) :
    (lengthChecked m p w s).buf = s.buf := by
  unfold lengthChecked; split <;> rfl

@[simp] theorem lengthChecked_evq (m : Nat) (p : List Byte) (w : Results → Results) (s : State) :
    (lengthChecked m p w s).evq = s.evq := by
  unfold lengthChecked; split <;> rfl

@[simp] theorem lengthChecked_ctrl (m : Nat) (p : List Byte) (w : Results → Results) (s : State) :
    (lengthChecked m p w s).ctrl = s.ctrl := by
  unfold lengthChecked; split <;> rfl

@[simp] theorem lengthChecked_framesValidated (m : Nat) (p : List Byte) (w : Results → Results) (s : State) :
    (lengthChecked m p w s).framesValidated = s.framesValidated := by
  unfold lengthChecked; split <;> rfl

@[simp] theorem lengthChecked_framesRejected (m : Nat) (p : List Byte) (w : Results → Results) (s : State) :
    (lengthChecked m p w s).framesRejected = s.framesRejected := by
  unfold lengthChecked; split <;> rfl

@[simp] theorem lengthChecked_bytesConsumed (m : Nat) (p : List Byte) (w : Results → Results) (s : State) :
    (lengthChecked m p w s).bytesConsumed = s.bytesConsumed := by
  unfold lengthChecked; split <;> rfl

@[simp] theorem lengthChecked_payloadTooShort (m : Nat) (p : List Byte) (w : Results → Results) (s : State) :
    (lengthChecked m p w s).payloadTooShort = if p.length < m then satInc s.payloadTooShort else s.payloadTooShort := by
  unfold lengthChecked; split <;> rfl

@[simp] theorem lengthChecked_results (m : Nat) (p : List Byte) (w : Results → Results) (s : State) :
    (lengthChecked m p w s).results = if p.length < m then s.results else w s.results := by
  unfold lengthChecked; split <;> rfl

@[simp] theorem lengthChecked_sched (m : Nat) (p : List Byte) (w : Results → Results) (s : State) :
    (lengthChecked m p w s).sched = s.sched := by
  unfold lengthChecked; split <;> rfl

@[simp] theorem lengthChecked_source (m : Nat) (p : List Byte) (w : Results → Results) (s : State) :
    (lengthChecked m p w s).source = s.source := by
  unfold lengthChecked; split <;> rfl

@[simp] theorem lengthChecked_requests (m : Nat) (p : List Byte) (w : Results → Results) (s : State) :
    (lengthChecked m p w s).requests = s.requests := by
  unfold lengthChecked; split <;> rfl

@[simp] theorem lengthChecked_log (m : Nat) (p : List Byte) (w : Results → Results) (s : State) :
    (lengthChecked m p w s).log = s.log := by
  unfold lengthChecked; split <;> rfl

/-! ### decodeEffect: the fields no decoder writes -/

@[simp] theorem decodeEffect_params (t : Byte) (p : List Byte) (s : State) :
    (decodeEffect t p s).params = s.params := by
  simp only [decodeEffect, channelsEffect, linkStatEffect, attitudeEffect, flightModeEffect, batteryEffect, gpsEffect,
    varioEffect, unknownEffect]
  repeat' split
  all_goals simp

@[simp] theorem decodeEffect_buf (t : Byte) (p : List Byte) (s : State) :
    (decodeEffect t p s).buf = s.buf := by
  simp only [decodeEffect, channelsEffect, linkStatEffect, attitudeEffect, flightModeEffect, batteryEffect, gpsEffect,
    varioEffect, unknownEffect]
  repeat' split
  all_goals simp

@[simp] theorem decodeEffect_evq (t : Byte) (p : List Byte) (s : State) :
    (decodeEffect t p s).evq = s.evq := by
  simp only [decodeEffect, channelsEffect, linkStatEffect, attitudeEffect, flightModeEffect, batteryEffect, gpsEffect,
    varioEffect, unknownEffect]
  repeat' split
  all_goals simp

@[simp] theorem decodeEffect_ctrl (t : Byte) (p : List Byte) (s : State) :
    (decodeEffect t p s).ctrl = s.ctrl := by
  simp only [decodeEffect, channelsEffect, linkStatEffect, attitudeEffect, flightModeEffect, batteryEffect, gpsEffect,
    varioEffect, unknownEffect]
  repeat' split
  all_goals simp

@[simp] theorem decodeEffect_framesValidated (t : Byte) (p : List Byte) (s : State) :
    (decodeEffect t p s).framesValidated = s.framesValidated := by
  simp only [decodeEffect, channelsEffect, linkStatEffect, attitudeEffect, flightModeEffect, batteryEffect, gpsEffect,
    varioEffect, unknownEffect]
  repeat' split
  all_goals simp

@[simp] theorem decodeEffect_framesRejected (t : Byte) (p : List Byte) (s : State) :
    (decodeEffect t p s).framesRejected = s.framesRejected := by
  simp only [decodeEffect, channelsEffect, linkStatEffect, attitudeEffect, flightModeEffect, batteryEffect, gpsEffect,
    varioEffect, unknownEffect]
  repeat' split
  all_goals simp

@[simp] theorem decodeEffect_bytesConsumed (t : Byte) (p : List Byte) (s : State) :
    (decodeEffect t p s).bytesConsumed = s.bytesConsumed := by
  simp only [decodeEffect, channelsEffect, linkStatEffect, attitudeEffect, flightModeEffect, batteryEffect, gpsEffect,
    varioEffect, unknownEffect]
  repeat' split
  all_goals simp

@[simp] theorem decodeEffect_sched (t : Byte) (p : List Byte) (s : State) :
    (decodeEffect t p s).sched = s.sched := by
  simp only [decodeEffect, channelsEffect, linkStatEffect, attitudeEffect, flightModeEffect, batteryEffect, gpsEffect,
    varioEffect, unknownEffect]
  repeat' split
  all_goals simp

@[simp] theorem decodeEffect_source (t : Byte) (p : List Byte) (s : State) :
    (decodeEffect t p s).source = s.source := by
  simp only [decodeEffect, channelsEffect, linkStatEffect, attitudeEffect, flightModeEffect, batteryEffect, gpsEffect,
    varioEffect, unknownEffect]
  repeat' split
  all_goals simp

@[simp] theorem decodeEffect_requests (t : Byte) (p : List Byte) (s : State) :
    (decodeEffect t p s).requests = s.requests := by
  simp only [decodeEffect, channelsEffect, linkStatEffect, attitudeEffect, flightModeEffect, batteryEffect, gpsEffect,
    varioEffect, unknownEffect]
  repeat' split
  all_goals simp

@[simp] theorem decodeEffect_log (t : Byte) (p : List Byte) (s : State) :
    (decodeEffect t p s).log = s.log := by
  simp only [decodeEffect, channelsEffect, linkStatEffect, attitudeEffect, flightModeEffect, batteryEffect, gpsEffect,
    varioEffect, unknownEffect]
  repeat' split
  all_goals simp

/-! ### transactions -/

@[simp] theorem pushByte_params (b : Byte) (s : State) :
    (pushByte b s).params = s.params := by
  unfold pushByte memAppend; split <;> rfl

@[simp] theorem pushByte_buf (b : Byte) (s : State) :
    (pushByte b s).buf = if inReady s then s.buf ++ [b] else s.buf := by
  unfold pushByte memAppend; split <;> rfl

@[simp] theorem pushByte_evq (b : Byte) (s : State) :
    (pushByte b s).evq = s.evq := by
  unfold pushByte memAppend; split <;> rfl

@[simp] theorem pushByte_ctrl (b : Byte) (s : State) :
    (pushByte b s).ctrl = s.ctrl := by
  unfold pushByte memAppend; split <;> rfl

@[simp] theorem pushByte_framesValidated (b : Byte) (s : State) :
    (pushByte b s).framesValidated = s.framesValidated := by
  unfold pushByte memAppend; split <;> rfl

@[simp] theorem pushByte_framesRejected (b : Byte) (s : State) :
    (pushByte b s).framesRejected = s.framesRejected := by
  unfold pushByte memAppend; split <;> rfl

@[simp] theorem pushByte_bytesConsumed (b : Byte) (s : State) :
    (pushByte b s).bytesConsumed = s.bytesConsumed := by
  unfold pushByte memAppend; split <;> rfl

@[simp] theorem pushByte_payloadTooShort (b : Byte) (s : State) :
    (pushByte b s).payloadTooShort = s.payloadTooShort := by
  unfold pushByte memAppend; split <;> rfl

@[simp] theorem pushByte_results (b : Byte) (s : State) :
    (pushByte b s).results = s.results := by
  unfold pushByte memAppend; split <;> rfl

@[simp] theorem pushByte_sched (b : Byte) (s : State) :
    (pushByte b s).sched = s.sched := by
  unfold pushByte memAppend; split <;> rfl

@[simp] theorem pushByte_source (b : Byte) (s : State) :
    (pushByte b s).source = s.source := by
  unfold pushByte memAppend; split <;> rfl

@[simp] theorem pushByte_requests (b : Byte) (s : State) :
    (pushByte b s).requests = s.requests := by
  unfold pushByte memAppend; split <;> rfl

@[simp] theorem pushByte_log (b : Byte) (s : State) :
    (pushByte b s).log = s.log := by
  unfold pushByte memAppend; split <;> rfl

@[simp] theorem writeWord_params (i : BitVec 7) (d : Word) (s : State) :
    (writeWord i d s).params = s.params := by
  unfold writeWord; split <;> rfl

@[simp] theorem writeWord_buf (i : BitVec 7) (d : Word) (s : State) :
    (writeWord i d s).buf = s.buf := by
  unfold writeWord; split <;> rfl

@[simp] theorem writeWord_evq (i : BitVec 7) (d : Word) (s : State) :
    (writeWord i d s).evq = s.evq := by
  unfold writeWord; split <;> rfl

@[simp] theorem writeWord_framesValidated (i : BitVec 7) (d : Word) (s : State) :
    (writeWord i d s).framesValidated = s.framesValidated := by
  unfold writeWord; split <;> rfl

@[simp] theorem writeWord_framesRejected (i : BitVec 7) (d : Word) (s : State) :
    (writeWord i d s).framesRejected = s.framesRejected := by
  unfold writeWord; split <;> rfl

@[simp] theorem writeWord_bytesConsumed (i : BitVec 7) (d : Word) (s : State) :
    (writeWord i d s).bytesConsumed = s.bytesConsumed := by
  unfold writeWord; split <;> rfl

@[simp] theorem writeWord_payloadTooShort (i : BitVec 7) (d : Word) (s : State) :
    (writeWord i d s).payloadTooShort = s.payloadTooShort := by
  unfold writeWord; split <;> rfl

@[simp] theorem writeWord_results (i : BitVec 7) (d : Word) (s : State) :
    (writeWord i d s).results = s.results := by
  unfold writeWord; split <;> rfl

@[simp] theorem writeWord_sched (i : BitVec 7) (d : Word) (s : State) :
    (writeWord i d s).sched = s.sched := by
  unfold writeWord; split <;> rfl

@[simp] theorem writeWord_source (i : BitVec 7) (d : Word) (s : State) :
    (writeWord i d s).source = s.source := by
  unfold writeWord; split <;> rfl

@[simp] theorem writeWord_requests (i : BitVec 7) (d : Word) (s : State) :
    (writeWord i d s).requests = s.requests := by
  unfold writeWord; split <;> rfl

@[simp] theorem writeWord_log (i : BitVec 7) (d : Word) (s : State) :
    (writeWord i d s).log = s.log := by
  unfold writeWord; split <;> rfl

@[simp] theorem popEvent_params (s : State) :
    (popEvent s).params = s.params := by
  unfold popEvent; split <;> simp [*]

@[simp] theorem popEvent_buf (s : State) :
    (popEvent s).buf = s.buf := by
  unfold popEvent; split <;> simp [*]

@[simp] theorem popEvent_evq (s : State) :
    (popEvent s).evq = s.evq.tail := by
  unfold popEvent; split <;> simp [*]

@[simp] theorem popEvent_ctrl (s : State) :
    (popEvent s).ctrl = s.ctrl := by
  unfold popEvent; split <;> simp [*]

@[simp] theorem popEvent_framesValidated (s : State) :
    (popEvent s).framesValidated = s.framesValidated := by
  unfold popEvent; split <;> simp [*]

@[simp] theorem popEvent_framesRejected (s : State) :
    (popEvent s).framesRejected = s.framesRejected := by
  unfold popEvent; split <;> simp [*]

@[simp] theorem popEvent_bytesConsumed (s : State) :
    (popEvent s).bytesConsumed = s.bytesConsumed := by
  unfold popEvent; split <;> simp [*]

@[simp] theorem popEvent_payloadTooShort (s : State) :
    (popEvent s).payloadTooShort = s.payloadTooShort := by
  unfold popEvent; split <;> simp [*]

@[simp] theorem popEvent_results (s : State) :
    (popEvent s).results = s.results := by
  unfold popEvent; split <;> simp [*]

@[simp] theorem popEvent_sched (s : State) :
    (popEvent s).sched = s.sched := by
  unfold popEvent; split <;> simp [*]

@[simp] theorem popEvent_source (s : State) :
    (popEvent s).source = s.source := by
  unfold popEvent; split <;> simp [*]

@[simp] theorem popEvent_requests (s : State) :
    (popEvent s).requests = s.requests := by
  unfold popEvent; split <;> simp [*]

@[simp] theorem popEvent_log (s : State) :
    (popEvent s).log = s.log ++ (s.evq.head?.map fun e => Response.event (eventBits e)).toList := by
  unfold popEvent; split <;> simp [*]

@[simp] theorem resetBlock_params (s : State) :
    (resetBlock s).params = s.params := rfl

@[simp] theorem resetBlock_buf (s : State) :
    (resetBlock s).buf = State.reset.buf := rfl

@[simp] theorem resetBlock_evq (s : State) :
    (resetBlock s).evq = State.reset.evq := rfl

@[simp] theorem resetBlock_ctrl (s : State) :
    (resetBlock s).ctrl = State.reset.ctrl := rfl

@[simp] theorem resetBlock_framesValidated (s : State) :
    (resetBlock s).framesValidated = State.reset.framesValidated := rfl

@[simp] theorem resetBlock_framesRejected (s : State) :
    (resetBlock s).framesRejected = State.reset.framesRejected := rfl

@[simp] theorem resetBlock_bytesConsumed (s : State) :
    (resetBlock s).bytesConsumed = State.reset.bytesConsumed := rfl

@[simp] theorem resetBlock_payloadTooShort (s : State) :
    (resetBlock s).payloadTooShort = State.reset.payloadTooShort := rfl

@[simp] theorem resetBlock_results (s : State) :
    (resetBlock s).results = State.reset.results := rfl

@[simp] theorem resetBlock_sched (s : State) :
    (resetBlock s).sched = s.sched := rfl

@[simp] theorem resetBlock_source (s : State) :
    (resetBlock s).source = s.source := rfl

@[simp] theorem resetBlock_requests (s : State) :
    (resetBlock s).requests = s.requests := rfl

@[simp] theorem resetBlock_log (s : State) :
    (resetBlock s).log = s.log := rfl

/-! ### endTurn -/

@[simp] theorem endTurn_params (s : State) :
    (endTurn s).params = s.params := by
  unfold endTurn; split <;> rfl

@[simp] theorem endTurn_buf (s : State) :
    (endTurn s).buf = s.buf := by
  unfold endTurn; split <;> rfl

@[simp] theorem endTurn_evq (s : State) :
    (endTurn s).evq = s.evq := by
  unfold endTurn; split <;> rfl

@[simp] theorem endTurn_ctrl (s : State) :
    (endTurn s).ctrl = s.ctrl := by
  unfold endTurn; split <;> rfl

@[simp] theorem endTurn_framesValidated (s : State) :
    (endTurn s).framesValidated = s.framesValidated := by
  unfold endTurn; split <;> rfl

@[simp] theorem endTurn_framesRejected (s : State) :
    (endTurn s).framesRejected = s.framesRejected := by
  unfold endTurn; split <;> rfl

@[simp] theorem endTurn_bytesConsumed (s : State) :
    (endTurn s).bytesConsumed = s.bytesConsumed := by
  unfold endTurn; split <;> rfl

@[simp] theorem endTurn_payloadTooShort (s : State) :
    (endTurn s).payloadTooShort = s.payloadTooShort := by
  unfold endTurn; split <;> rfl

@[simp] theorem endTurn_results (s : State) :
    (endTurn s).results = s.results := by
  unfold endTurn; split <;> rfl

@[simp] theorem endTurn_sched (s : State) :
    (endTurn s).sched = s.sched.tail := by
  unfold endTurn; split <;> rfl

@[simp] theorem endTurn_log (s : State) :
    (endTurn s).log = s.log := by
  unfold endTurn; split <;> rfl

/-! ### What depends on the fields alone -/

@[simp] theorem classOf_endTurn (s : State) : classOf (endTurn s) = classOf s := by simp [classOf, sbusOn]

@[simp] theorem held_endTurn (s : State) : held (endTurn s) = held s := by simp [held, evqBlocks]

@[simp] theorem inReady_endTurn (s : State) : inReady (endTurn s) = inReady s := by simp [inReady, quiescent]

end Sys2Proof.Machine
end

