-- ==== Sys2Proof/Laws/Commit.lean ====
section
/-! SUPPORT. One lemma per field per commit of a result group (43_decoders R180). -/

namespace Sys2Proof.Machine

@[simp] theorem commitChannels_chRaw (v : Vector Raw 16) (r : Results) :
    (commitChannels v r).chRaw = v := rfl

@[simp] theorem commitChannels_linkStat (v : Vector Raw 16) (r : Results) :
    (commitChannels v r).linkStat = r.linkStat := rfl

@[simp] theorem commitChannels_attitude (v : Vector Raw 16) (r : Results) :
    (commitChannels v r).attitude = r.attitude := rfl

@[simp] theorem commitChannels_flightMode (v : Vector Raw 16) (r : Results) :
    (commitChannels v r).flightMode = r.flightMode := rfl

@[simp] theorem commitChannels_battery (v : Vector Raw 16) (r : Results) :
    (commitChannels v r).battery = r.battery := rfl

@[simp] theorem commitChannels_gps (v : Vector Raw 16) (r : Results) :
    (commitChannels v r).gps = r.gps := rfl

@[simp] theorem commitChannels_vario (v : Vector Raw 16) (r : Results) :
    (commitChannels v r).vario = r.vario := rfl

@[simp] theorem commitChannels_recValid (v : Vector Raw 16) (r : Results) :
    (commitChannels v r).recValid = r.recValid := by
  simp [commitChannels, commit, validMask]

@[simp] theorem commitChannels_seq_channels (v : Vector Raw 16) (r : Results) :
    (commitChannels v r).seq.channels = r.seq.channels + 1 := rfl

@[simp] theorem commitChannels_seq_linkStat (v : Vector Raw 16) (r : Results) :
    (commitChannels v r).seq.linkStat = r.seq.linkStat := rfl

@[simp] theorem commitChannels_seq_attitude (v : Vector Raw 16) (r : Results) :
    (commitChannels v r).seq.attitude = r.seq.attitude := rfl

@[simp] theorem commitChannels_seq_flightMode (v : Vector Raw 16) (r : Results) :
    (commitChannels v r).seq.flightMode = r.seq.flightMode := rfl

@[simp] theorem commitChannels_seq_battery (v : Vector Raw 16) (r : Results) :
    (commitChannels v r).seq.battery = r.seq.battery := rfl

@[simp] theorem commitChannels_seq_gps (v : Vector Raw 16) (r : Results) :
    (commitChannels v r).seq.gps = r.seq.gps := rfl

@[simp] theorem commitChannels_seq_vario (v : Vector Raw 16) (r : Results) :
    (commitChannels v r).seq.vario = r.seq.vario := rfl

@[simp] theorem commitLinkStat_chRaw (x : LinkStat) (r : Results) :
    (commitLinkStat x r).chRaw = r.chRaw := rfl

@[simp] theorem commitLinkStat_linkStat (x : LinkStat) (r : Results) :
    (commitLinkStat x r).linkStat = x := rfl

@[simp] theorem commitLinkStat_attitude (x : LinkStat) (r : Results) :
    (commitLinkStat x r).attitude = r.attitude := rfl

@[simp] theorem commitLinkStat_flightMode (x : LinkStat) (r : Results) :
    (commitLinkStat x r).flightMode = r.flightMode := rfl

@[simp] theorem commitLinkStat_battery (x : LinkStat) (r : Results) :
    (commitLinkStat x r).battery = r.battery := rfl

@[simp] theorem commitLinkStat_gps (x : LinkStat) (r : Results) :
    (commitLinkStat x r).gps = r.gps := rfl

@[simp] theorem commitLinkStat_vario (x : LinkStat) (r : Results) :
    (commitLinkStat x r).vario = r.vario := rfl

@[simp] theorem commitLinkStat_recValid (x : LinkStat) (r : Results) :
    (commitLinkStat x r).recValid = r.recValid ||| 1#6 := by
  simp [commitLinkStat, commit, validMask, kindBit]

@[simp] theorem commitLinkStat_seq_channels (x : LinkStat) (r : Results) :
    (commitLinkStat x r).seq.channels = r.seq.channels := rfl

@[simp] theorem commitLinkStat_seq_linkStat (x : LinkStat) (r : Results) :
    (commitLinkStat x r).seq.linkStat = r.seq.linkStat + 1 := rfl

@[simp] theorem commitLinkStat_seq_attitude (x : LinkStat) (r : Results) :
    (commitLinkStat x r).seq.attitude = r.seq.attitude := rfl

@[simp] theorem commitLinkStat_seq_flightMode (x : LinkStat) (r : Results) :
    (commitLinkStat x r).seq.flightMode = r.seq.flightMode := rfl

@[simp] theorem commitLinkStat_seq_battery (x : LinkStat) (r : Results) :
    (commitLinkStat x r).seq.battery = r.seq.battery := rfl

@[simp] theorem commitLinkStat_seq_gps (x : LinkStat) (r : Results) :
    (commitLinkStat x r).seq.gps = r.seq.gps := rfl

@[simp] theorem commitLinkStat_seq_vario (x : LinkStat) (r : Results) :
    (commitLinkStat x r).seq.vario = r.seq.vario := rfl

@[simp] theorem commitAttitude_chRaw (x : Attitude) (r : Results) :
    (commitAttitude x r).chRaw = r.chRaw := rfl

@[simp] theorem commitAttitude_linkStat (x : Attitude) (r : Results) :
    (commitAttitude x r).linkStat = r.linkStat := rfl

@[simp] theorem commitAttitude_attitude (x : Attitude) (r : Results) :
    (commitAttitude x r).attitude = x := rfl

@[simp] theorem commitAttitude_flightMode (x : Attitude) (r : Results) :
    (commitAttitude x r).flightMode = r.flightMode := rfl

@[simp] theorem commitAttitude_battery (x : Attitude) (r : Results) :
    (commitAttitude x r).battery = r.battery := rfl

@[simp] theorem commitAttitude_gps (x : Attitude) (r : Results) :
    (commitAttitude x r).gps = r.gps := rfl

@[simp] theorem commitAttitude_vario (x : Attitude) (r : Results) :
    (commitAttitude x r).vario = r.vario := rfl

@[simp] theorem commitAttitude_recValid (x : Attitude) (r : Results) :
    (commitAttitude x r).recValid = r.recValid ||| 2#6 := by
  simp [commitAttitude, commit, validMask, kindBit]

@[simp] theorem commitAttitude_seq_channels (x : Attitude) (r : Results) :
    (commitAttitude x r).seq.channels = r.seq.channels := rfl

@[simp] theorem commitAttitude_seq_linkStat (x : Attitude) (r : Results) :
    (commitAttitude x r).seq.linkStat = r.seq.linkStat := rfl

@[simp] theorem commitAttitude_seq_attitude (x : Attitude) (r : Results) :
    (commitAttitude x r).seq.attitude = r.seq.attitude + 1 := rfl

@[simp] theorem commitAttitude_seq_flightMode (x : Attitude) (r : Results) :
    (commitAttitude x r).seq.flightMode = r.seq.flightMode := rfl

@[simp] theorem commitAttitude_seq_battery (x : Attitude) (r : Results) :
    (commitAttitude x r).seq.battery = r.seq.battery := rfl

@[simp] theorem commitAttitude_seq_gps (x : Attitude) (r : Results) :
    (commitAttitude x r).seq.gps = r.seq.gps := rfl

@[simp] theorem commitAttitude_seq_vario (x : Attitude) (r : Results) :
    (commitAttitude x r).seq.vario = r.seq.vario := rfl

@[simp] theorem commitFlightMode_chRaw (x : List Byte) (r : Results) :
    (commitFlightMode x r).chRaw = r.chRaw := rfl

@[simp] theorem commitFlightMode_linkStat (x : List Byte) (r : Results) :
    (commitFlightMode x r).linkStat = r.linkStat := rfl

@[simp] theorem commitFlightMode_attitude (x : List Byte) (r : Results) :
    (commitFlightMode x r).attitude = r.attitude := rfl

@[simp] theorem commitFlightMode_flightMode (x : List Byte) (r : Results) :
    (commitFlightMode x r).flightMode = ⟨BitVec.ofNat 6 (min x.length 60), padTo60 x⟩ := rfl

@[simp] theorem commitFlightMode_battery (x : List Byte) (r : Results) :
    (commitFlightMode x r).battery = r.battery := rfl

@[simp] theorem commitFlightMode_gps (x : List Byte) (r : Results) :
    (commitFlightMode x r).gps = r.gps := rfl

@[simp] theorem commitFlightMode_vario (x : List Byte) (r : Results) :
    (commitFlightMode x r).vario = r.vario := rfl

@[simp] theorem commitFlightMode_recValid (x : List Byte) (r : Results) :
    (commitFlightMode x r).recValid = r.recValid ||| 4#6 := by
  simp [commitFlightMode, commit, validMask, kindBit]

@[simp] theorem commitFlightMode_seq_channels (x : List Byte) (r : Results) :
    (commitFlightMode x r).seq.channels = r.seq.channels := rfl

@[simp] theorem commitFlightMode_seq_linkStat (x : List Byte) (r : Results) :
    (commitFlightMode x r).seq.linkStat = r.seq.linkStat := rfl

@[simp] theorem commitFlightMode_seq_attitude (x : List Byte) (r : Results) :
    (commitFlightMode x r).seq.attitude = r.seq.attitude := rfl

@[simp] theorem commitFlightMode_seq_flightMode (x : List Byte) (r : Results) :
    (commitFlightMode x r).seq.flightMode = r.seq.flightMode + 1 := rfl

@[simp] theorem commitFlightMode_seq_battery (x : List Byte) (r : Results) :
    (commitFlightMode x r).seq.battery = r.seq.battery := rfl

@[simp] theorem commitFlightMode_seq_gps (x : List Byte) (r : Results) :
    (commitFlightMode x r).seq.gps = r.seq.gps := rfl

@[simp] theorem commitFlightMode_seq_vario (x : List Byte) (r : Results) :
    (commitFlightMode x r).seq.vario = r.seq.vario := rfl

@[simp] theorem commitBattery_chRaw (x : Battery) (r : Results) :
    (commitBattery x r).chRaw = r.chRaw := rfl

@[simp] theorem commitBattery_linkStat (x : Battery) (r : Results) :
    (commitBattery x r).linkStat = r.linkStat := rfl

@[simp] theorem commitBattery_attitude (x : Battery) (r : Results) :
    (commitBattery x r).attitude = r.attitude := rfl

@[simp] theorem commitBattery_flightMode (x : Battery) (r : Results) :
    (commitBattery x r).flightMode = r.flightMode := rfl

@[simp] theorem commitBattery_battery (x : Battery) (r : Results) :
    (commitBattery x r).battery = x := rfl

@[simp] theorem commitBattery_gps (x : Battery) (r : Results) :
    (commitBattery x r).gps = r.gps := rfl

@[simp] theorem commitBattery_vario (x : Battery) (r : Results) :
    (commitBattery x r).vario = r.vario := rfl

@[simp] theorem commitBattery_recValid (x : Battery) (r : Results) :
    (commitBattery x r).recValid = r.recValid ||| 8#6 := by
  simp [commitBattery, commit, validMask, kindBit]

@[simp] theorem commitBattery_seq_channels (x : Battery) (r : Results) :
    (commitBattery x r).seq.channels = r.seq.channels := rfl

@[simp] theorem commitBattery_seq_linkStat (x : Battery) (r : Results) :
    (commitBattery x r).seq.linkStat = r.seq.linkStat := rfl

@[simp] theorem commitBattery_seq_attitude (x : Battery) (r : Results) :
    (commitBattery x r).seq.attitude = r.seq.attitude := rfl

@[simp] theorem commitBattery_seq_flightMode (x : Battery) (r : Results) :
    (commitBattery x r).seq.flightMode = r.seq.flightMode := rfl

@[simp] theorem commitBattery_seq_battery (x : Battery) (r : Results) :
    (commitBattery x r).seq.battery = r.seq.battery + 1 := rfl

@[simp] theorem commitBattery_seq_gps (x : Battery) (r : Results) :
    (commitBattery x r).seq.gps = r.seq.gps := rfl

@[simp] theorem commitBattery_seq_vario (x : Battery) (r : Results) :
    (commitBattery x r).seq.vario = r.seq.vario := rfl

@[simp] theorem commitGps_chRaw (x : Gps) (r : Results) :
    (commitGps x r).chRaw = r.chRaw := rfl

@[simp] theorem commitGps_linkStat (x : Gps) (r : Results) :
    (commitGps x r).linkStat = r.linkStat := rfl

@[simp] theorem commitGps_attitude (x : Gps) (r : Results) :
    (commitGps x r).attitude = r.attitude := rfl

@[simp] theorem commitGps_flightMode (x : Gps) (r : Results) :
    (commitGps x r).flightMode = r.flightMode := rfl

@[simp] theorem commitGps_battery (x : Gps) (r : Results) :
    (commitGps x r).battery = r.battery := rfl

@[simp] theorem commitGps_gps (x : Gps) (r : Results) :
    (commitGps x r).gps = x := rfl

@[simp] theorem commitGps_vario (x : Gps) (r : Results) :
    (commitGps x r).vario = r.vario := rfl

@[simp] theorem commitGps_recValid (x : Gps) (r : Results) :
    (commitGps x r).recValid = r.recValid ||| 16#6 := by
  simp [commitGps, commit, validMask, kindBit]

@[simp] theorem commitGps_seq_channels (x : Gps) (r : Results) :
    (commitGps x r).seq.channels = r.seq.channels := rfl

@[simp] theorem commitGps_seq_linkStat (x : Gps) (r : Results) :
    (commitGps x r).seq.linkStat = r.seq.linkStat := rfl

@[simp] theorem commitGps_seq_attitude (x : Gps) (r : Results) :
    (commitGps x r).seq.attitude = r.seq.attitude := rfl

@[simp] theorem commitGps_seq_flightMode (x : Gps) (r : Results) :
    (commitGps x r).seq.flightMode = r.seq.flightMode := rfl

@[simp] theorem commitGps_seq_battery (x : Gps) (r : Results) :
    (commitGps x r).seq.battery = r.seq.battery := rfl

@[simp] theorem commitGps_seq_gps (x : Gps) (r : Results) :
    (commitGps x r).seq.gps = r.seq.gps + 1 := rfl

@[simp] theorem commitGps_seq_vario (x : Gps) (r : Results) :
    (commitGps x r).seq.vario = r.seq.vario := rfl

@[simp] theorem commitVario_chRaw (x : Vario) (r : Results) :
    (commitVario x r).chRaw = r.chRaw := rfl

@[simp] theorem commitVario_linkStat (x : Vario) (r : Results) :
    (commitVario x r).linkStat = r.linkStat := rfl

@[simp] theorem commitVario_attitude (x : Vario) (r : Results) :
    (commitVario x r).attitude = r.attitude := rfl

@[simp] theorem commitVario_flightMode (x : Vario) (r : Results) :
    (commitVario x r).flightMode = r.flightMode := rfl

@[simp] theorem commitVario_battery (x : Vario) (r : Results) :
    (commitVario x r).battery = r.battery := rfl

@[simp] theorem commitVario_gps (x : Vario) (r : Results) :
    (commitVario x r).gps = r.gps := rfl

@[simp] theorem commitVario_vario (x : Vario) (r : Results) :
    (commitVario x r).vario = x := rfl

@[simp] theorem commitVario_recValid (x : Vario) (r : Results) :
    (commitVario x r).recValid = r.recValid ||| 32#6 := by
  simp [commitVario, commit, validMask, kindBit]

@[simp] theorem commitVario_seq_channels (x : Vario) (r : Results) :
    (commitVario x r).seq.channels = r.seq.channels := rfl

@[simp] theorem commitVario_seq_linkStat (x : Vario) (r : Results) :
    (commitVario x r).seq.linkStat = r.seq.linkStat := rfl

@[simp] theorem commitVario_seq_attitude (x : Vario) (r : Results) :
    (commitVario x r).seq.attitude = r.seq.attitude := rfl

@[simp] theorem commitVario_seq_flightMode (x : Vario) (r : Results) :
    (commitVario x r).seq.flightMode = r.seq.flightMode := rfl

@[simp] theorem commitVario_seq_battery (x : Vario) (r : Results) :
    (commitVario x r).seq.battery = r.seq.battery := rfl

@[simp] theorem commitVario_seq_gps (x : Vario) (r : Results) :
    (commitVario x r).seq.gps = r.seq.gps := rfl

@[simp] theorem commitVario_seq_vario (x : Vario) (r : Results) :
    (commitVario x r).seq.vario = r.seq.vario + 1 := rfl

end Sys2Proof.Machine
end

