-- ==== Sys2Proof/Laws/Ops.lean ====
section
/-! SUPPORT. For each shared operation, once, everything it can do. -/

namespace Sys2Proof.Machine

/-! ### Counters -/

theorem satAdd_toNat (c : Word) (n : Nat) : (satAdd c n).toNat = min (c.toNat + n) (2 ^ 32 - 1) := by
  simp only [satAdd, BitVec.toNat_ofNat]
  exact Nat.mod_eq_of_lt (by omega)

theorem satInc_toNat (c : Word) : (satInc c).toNat = min (c.toNat + 1) (2 ^ 32 - 1) := satAdd_toNat c 1

theorem le_satAdd (c : Word) (n : Nat) : c.toNat ≤ (satAdd c n).toNat := by
  rw [satAdd_toNat]; have := c.isLt; omega

/-! ### The hold and the guard of an engine step -/

theorem whenSelected_of_selected {c : StepClass} {s : State} (h : classOf s = c) (hh : held s = false) (e : State) :
    whenSelected c s e = e := if_pos ⟨h, hh⟩

theorem whenSelected_cases (c : StepClass) (s e : State) :
    (classOf s = c ∧ held s = false ∧ whenSelected c s e = e) ∨
      (¬(classOf s = c ∧ held s = false) ∧ whenSelected c s e = s) := by
  by_cases h : classOf s = c ∧ held s = false
  · exact .inl ⟨h.1, h.2, if_pos h⟩
  · exact .inr ⟨h, if_neg h⟩

theorem not_held_of_notSync {s : State} (h : classOf s = .notSync) : held s = false := by
  simp [held, h, emits]

/-! ### The classification -/

/-- Every outcome of the classification, with the condition it has (42_synchronizer R140). -/
theorem classify_cases (on : Bool) (buf : List Byte) :
    (buf.length = 0 ∧ classify on buf = .waitSync) ∨
    (byteAt buf 0 = 0xC8#8 ∧ buf.length = 1 ∧ classify on buf = .waitLen) ∨
    (byteAt buf 0 = 0xC8#8 ∧ 2 ≤ buf.length ∧ ((byteAt buf 1).toNat < 2 ∨ 62 < (byteAt buf 1).toNat) ∧
      classify on buf = .badLen) ∨
    (byteAt buf 0 = 0xC8#8 ∧ 2 ≤ buf.length ∧ 2 ≤ (byteAt buf 1).toNat ∧ (byteAt buf 1).toNat ≤ 62 ∧
      buf.length < (byteAt buf 1).toNat + 2 ∧ classify on buf = .waitBody) ∨
    (byteAt buf 0 = 0xC8#8 ∧ 2 ≤ (byteAt buf 1).toNat ∧ (byteAt buf 1).toNat ≤ 62 ∧
      (byteAt buf 1).toNat + 2 ≤ buf.length ∧
      ((crc8 (memRead buf 1 (byteAt buf 1).toNat) = byteAt buf ((byteAt buf 1).toNat + 1) ∧
          classify on buf = .crcOk) ∨
        (crc8 (memRead buf 1 (byteAt buf 1).toNat) ≠ byteAt buf ((byteAt buf 1).toNat + 1) ∧
          classify on buf = .crcBad))) ∨
    (byteAt buf 0 = 0x0F#8 ∧ on = true ∧ 0 < buf.length ∧ buf.length < 25 ∧ classify on buf = .waitBody) ∨
    (byteAt buf 0 = 0x0F#8 ∧ on = true ∧ 25 ≤ buf.length ∧
      ((Config.sbusValid (memRead buf 0 25) = true ∧ classify on buf = .sbusOk) ∨
        (Config.sbusValid (memRead buf 0 25) = false ∧ classify on buf = .sbusBad))) ∨
    (0 < buf.length ∧ byteAt buf 0 ≠ 0xC8#8 ∧ ¬(byteAt buf 0 = 0x0F#8 ∧ on = true) ∧
      classify on buf = .notSync) := by
  generalize hc : classify on buf = c
  unfold classify at hc
  split at hc
  · exact .inl ⟨‹_›, hc.symm⟩
  · have hpos : 0 < buf.length := by omega
    split at hc
    · rename_i h0
      replace h0 : byteAt buf 0 = 0xC8#8 := h0
      split at hc
      · exact .inr (.inl ⟨h0, by omega, hc.symm⟩)
      · split at hc
        · rename_i h2
          exact .inr (.inr (.inl ⟨h0, by omega, h2, hc.symm⟩))
        · rename_i h2
          simp only [Config.lenMin, Config.lenMax, not_or, Nat.not_lt] at h2
          split at hc
          · exact .inr (.inr (.inr (.inl ⟨h0, by omega, h2.1, h2.2, ‹_›, hc.symm⟩)))
          · refine .inr (.inr (.inr (.inr (.inl ⟨h0, h2.1, h2.2, by omega, ?_⟩))))
            split at hc
            · exact .inl ⟨‹_›, hc.symm⟩
            · exact .inr ⟨‹_›, hc.symm⟩
    · rename_i h0
      split at hc
      · rename_i h1
        split at hc
        · exact .inr (.inr (.inr (.inr (.inr (.inl ⟨h1.1, h1.2, hpos, ‹_›, hc.symm⟩)))))
        · rename_i h2
          simp only [Config.sbusFrameLen, Nat.not_lt] at h2
          refine .inr (.inr (.inr (.inr (.inr (.inr (.inl ⟨h1.1, h1.2, h2, ?_⟩))))))
          split at hc
          · exact .inl ⟨‹_›, hc.symm⟩
          · rename_i h3
            exact .inr ⟨Bool.eq_false_iff.mpr h3, hc.symm⟩
      · exact .inr (.inr (.inr (.inr (.inr (.inr (.inr ⟨hpos, h0, ‹_›, hc.symm⟩))))))

theorem length_le_of_isWaiting {on : Bool} {buf : List Byte} (h : isWaiting (classify on buf) = true) :
    buf.length ≤ 63 := by
  rcases classify_cases on buf with ⟨_, hc⟩ | ⟨_, _, hc⟩ | ⟨_, _, _, hc⟩ | ⟨_, _, _, _, _, hc⟩ |
    ⟨_, _, _, _, ⟨_, hc⟩ | ⟨_, hc⟩⟩ | ⟨_, _, _, _, hc⟩ | ⟨_, _, _, ⟨_, hc⟩ | ⟨_, hc⟩⟩ | ⟨_, _, _, hc⟩ <;>
    first
    | omega
    | simp [hc, isWaiting] at h

theorem length_pos_of_not_isWaiting {on : Bool} {buf : List Byte} (h : isWaiting (classify on buf) = false) :
    0 < buf.length := by
  rcases Nat.eq_zero_or_pos buf.length with h0 | h0
  · simp [classify, h0, isWaiting] at h
  · exact h0

theorem complete_of_crcOk {on : Bool} {buf : List Byte} (h : classify on buf = .crcOk) :
    byteAt buf 0 = 0xC8#8 ∧ 2 ≤ (byteAt buf 1).toNat ∧ (byteAt buf 1).toNat ≤ 62 ∧
      (byteAt buf 1).toNat + 2 ≤ buf.length ∧
      crc8 (memRead buf 1 (byteAt buf 1).toNat) = byteAt buf ((byteAt buf 1).toNat + 1) := by
  rcases classify_cases on buf with ⟨_, hc⟩ | ⟨_, _, hc⟩ | ⟨_, _, _, hc⟩ | ⟨_, _, _, _, _, hc⟩ |
    ⟨h0, h1, h2, h3, ⟨h4, _⟩ | ⟨_, hc⟩⟩ | ⟨_, _, _, _, hc⟩ | ⟨_, _, _, ⟨_, hc⟩ | ⟨_, hc⟩⟩ | ⟨_, _, _, hc⟩
  all_goals first
    | exact ⟨h0, h1, h2, h3, h4⟩
    | simp [hc] at h

/-! ### The stream buffer keeps its canonical form -/

theorem reset_memoryWf : memoryWf State.reset.buf = true := by decide

theorem memConsume_memoryWf {m : Memory} (n : Nat) (h : memoryWf m = true) : memoryWf (memConsume m n) = true := by
  simp only [memoryWf, memConsume, List.length_drop, decide_eq_true_eq] at *; omega

theorem pushByte_memoryWf (b : Byte) {s : State} (h : memoryWf s.buf = true) : memoryWf (pushByte b s).buf = true := by
  rw [pushByte_buf]
  split
  · rename_i hr
    have := length_le_of_isWaiting (on := sbusOn s) (buf := s.buf) hr
    simp only [memoryWf, Config.bufCap, List.length_append, List.length_singleton, decide_eq_true_eq]; omega
  · exact h

theorem consumeBytes_memoryWf (n : Nat) {s : State} (h : memoryWf s.buf = true) :
    memoryWf (consumeBytes n s).buf = true := memConsume_memoryWf n h

theorem resetBlock_memoryWf (s : State) : memoryWf (resetBlock s).buf = true := reset_memoryWf

/-! ### READs one after another -/

@[simp] theorem runSteps_zero (s : State) : runSteps 0 s = s := rfl

theorem runSteps_succ {s t : State} (h : step s = .next t) (k : Nat) : runSteps (k + 1) s = runSteps k t := by
  rw [runSteps, h]

@[simp] theorem readWord_answer (r : Response) (s : State) (i : BitVec 7) : readWord (answer r s) i = readWord s i := rfl

@[simp] theorem readAt_answer (r : Response) (s : State) (i : Nat) : readAt (answer r s) i = readAt s i := rfl

@[simp] theorem readEach_nil (gaps : List Nat) (s : State) : readEach [] gaps s = ([], s) := rfl

theorem readEach_cons (i : Nat) (rest gaps : List Nat) (s : State) :
    (readEach (i :: rest) gaps s).1 = readAt (runSteps (gaps.headD 0) s) i ::
      (readEach rest gaps.tail (answer (.data (readAt (runSteps (gaps.headD 0) s) i)) (runSteps (gaps.headD 0) s))).1 :=
  rfl

@[simp] theorem length_readEach (indices gaps : List Nat) (s : State) :
    (readEach indices gaps s).1.length = indices.length := by
  induction indices generalizing gaps s with
  | nil => rfl
  | cons i rest ih => simp [readEach_cons, ih]

/-- With no step in between, all the READs see one state. -/
theorem readEach_without_steps (indices : List Nat) (s : State) :
    (readEach indices [] s).1 = indices.map (readAt s) := by
  induction indices generalizing s with
  | nil => rfl
  | cons i rest ih => simp [readEach_cons, ih]

/-- Both outcomes of the SEQ protocol (20_memory R70). -/
theorem consistentRead_cases (g : ResultGroup) (gaps : List Nat) (s : State) {answers : List Word}
    (h : (readEach (seqIndex g :: (groupWords g ++ [seqIndex g])) gaps s).1 = answers) :
    (answers.head? = answers.getLast? ∧ (consistentRead g gaps s).1 = some answers.tail.dropLast) ∨
      (answers.head? ≠ answers.getLast? ∧ (consistentRead g gaps s).1 = none) := by
  subst h
  by_cases same : (readEach (seqIndex g :: (groupWords g ++ [seqIndex g])) gaps s).1.head? =
      (readEach (seqIndex g :: (groupWords g ++ [seqIndex g])) gaps s).1.getLast?
  · exact .inl ⟨same, if_pos same⟩
  · exact .inr ⟨same, if_neg same⟩

/-! ### What each operation does, as its meaning says it -/

theorem perform_decGps (p : List Byte) (s : State) : perform (.decGps p) s = gpsEffect p s := rfl

theorem perform_decVario (p : List Byte) (s : State) : perform (.decVario p) s = varioEffect p s := rfl

theorem perform_decBattery (p : List Byte) (s : State) : perform (.decBattery p) s = batteryEffect p s := rfl

theorem perform_decLinkstat (p : List Byte) (s : State) : perform (.decLinkstat p) s = linkStatEffect p s := rfl

theorem perform_decChannels (p : List Byte) (s : State) : perform (.decChannels p) s = channelsEffect p s := rfl

theorem perform_decAttitude (p : List Byte) (s : State) : perform (.decAttitude p) s = attitudeEffect p s := rfl

theorem perform_decFlightmode (p : List Byte) (s : State) :
    perform (.decFlightmode p) s = flightModeEffect p s := rfl

theorem perform_decUnknown (t : Byte) (p : List Byte) (s : State) : perform (.decUnknown t p) s = s := rfl

theorem perform_drop (s : State) : perform .drop s = whenSelected .notSync s (consumeBytes 1 s) := rfl

theorem perform_lenReject (s : State) :
    perform .lenReject s = whenSelected .badLen s (rejectCandidate .crsf .malformedLength s) := rfl

theorem perform_crcReject (s : State) :
    perform .crcReject s = whenSelected .crcBad s (rejectCandidate .crsf .crcMismatch s) := rfl

theorem perform_emit (s : State) : perform .emit s = whenSelected .crcOk s (acceptFrame s) := rfl

theorem perform_sbusAccept (s : State) : perform .sbusAccept s = whenSelected .sbusOk s (acceptSbus s) := rfl

theorem perform_sbusReject (s : State) :
    perform .sbusReject s = whenSelected .sbusBad s (rejectCandidate .sbus .malformedLength s) := rfl

theorem perform_push (b : Byte) (s : State) : perform (.push b) s = pushByte b s := rfl

theorem perform_read (i : BitVec 7) (s : State) : perform (.read i) s = answer (.data (readWord s i)) s := rfl

theorem perform_write (i : BitVec 7) (d : Word) (s : State) : perform (.write i d) s = writeWord i d s := rfl

theorem perform_pop (s : State) : perform .pop s = popEvent s := rfl

theorem perform_reset (s : State) : perform .reset s = resetBlock s := rfl

end Sys2Proof.Machine
end

