-- ==== Sys2Proof/Tests/Slice0.lean ====
section
/-! SUPPORT. Our own tests: words and values from spec/95_test_vectors.md, ill-formed terms, and for every statement with
hypotheses a named witness that meets them. -/

set_option Elab.async false

namespace Sys2Proof.Tests

open Sys2Proof Sys2Proof.Machine Sys2Proof.Spec

/-- A byte sequence from numbers. -/
def bytes (l : List Nat) : List Byte := l.map (BitVec.ofNat 8)

/-- The state after reset with bytes in the buffer. -/
def withBuf (l : List Nat) : State := { State.reset with buf := bytes l }

/-- An S.Bus instance with S.Bus enabled and bytes in the buffer. -/
def withSbus (l : List Nat) : State := { withBuf l with params := ⟨8, true⟩, ctrl := ⟨true, true⟩ }

/-- An instance with `EV_DEPTH = 1` and one event waiting (vector V-S13). -/
def fullQueue (l : List Nat) : State :=
  { withBuf l with params := ⟨1, false⟩, evq := [crsfAccepted 0x07#8 (bytes [0x00, 0x0F])] }

/-- A word of the window after an operation. -/
def wordAfter (i : Instr) (s : State) (k : Nat) : Nat := (readAt (perform i s) k).toNat

/-- The low 32 bits of an event record, its word 0. -/
def word0 (e : Event) : Nat := (eventBits e).toNat % 2 ^ 32

/-- The next state of an outcome, if there is one. -/
def after : Host.Outcome State Fault Refusal → Option State
  | .next t => some t
  | .fault _ => none
  | .refused _ => none

theorem next_of_after {o : Host.Outcome State Fault Refusal} {t : State} (h : after o = some t) : o = .next t := by
  cases o <;> simp_all [after]

/-! ### Well-formedness refuses each ill-formed term -/

def longPayload : List Byte := List.replicate 61 0

def maxPayload : List Byte := List.replicate 60 0

theorem test_wf_refuses_long_gps : (Instr.decGps longPayload).wf = false := by decide +kernel
theorem test_wf_refuses_long_vario : (Instr.decVario longPayload).wf = false := by decide +kernel
theorem test_wf_refuses_long_battery : (Instr.decBattery longPayload).wf = false := by decide +kernel
theorem test_wf_refuses_long_linkstat : (Instr.decLinkstat longPayload).wf = false := by decide +kernel
theorem test_wf_refuses_long_channels : (Instr.decChannels longPayload).wf = false := by decide +kernel
theorem test_wf_refuses_long_attitude : (Instr.decAttitude longPayload).wf = false := by decide +kernel
theorem test_wf_refuses_long_flightmode : (Instr.decFlightmode longPayload).wf = false := by decide +kernel
theorem test_wf_refuses_long_unknown : (Instr.decUnknown 0x3A#8 longPayload).wf = false := by decide +kernel
theorem test_wf_refuses_known_type_as_unknown : (Instr.decUnknown 0x21#8 []).wf = false := by decide +kernel
theorem test_wf_admits_the_longest_payload :
    (Instr.decGps maxPayload).wf = true ∧ (Instr.decUnknown 0xC8#8 maxPayload).wf = true := by decide +kernel

/-! ### Decoding: words written out from the spec's encodings -/

/-- V-D16. -/
theorem test_decode_gps :
    decode (.frame (bytes [0xC8, 0x11, 0x02, 0, 0, 0, 1, 0xFF, 0xFF, 0xFF, 0xFF, 0x00, 0x24, 0x23, 0x28, 0x03, 0xE8,
      0x0C, 0x13])) =
      .ok (.decGps (bytes [0, 0, 0, 1, 0xFF, 0xFF, 0xFF, 0xFF, 0x00, 0x24, 0x23, 0x28, 0x03, 0xE8, 0x0C])) := by
  decide +kernel

/-- V-D20. -/
theorem test_decode_vario :
    decode (.frame (bytes [0xC8, 0x04, 0x07, 0xFF, 0x9C, 0xF0])) = .ok (.decVario (bytes [0xFF, 0x9C])) := by
  decide +kernel

/-- V-D14. -/
theorem test_decode_battery :
    decode (.frame (bytes [0xC8, 0x0A, 0x08, 0x00, 0xA8, 0xFF, 0xF6, 0x01, 0x02, 0x03, 0x4B, 0x59])) =
      .ok (.decBattery (bytes [0x00, 0xA8, 0xFF, 0xF6, 0x01, 0x02, 0x03, 0x4B])) := by decide +kernel

/-- V-D6. -/
theorem test_decode_linkstat :
    decode (.frame (bytes [0xC8, 0x08, 0x14, 0x80, 0x7F, 0xFF, 0x00, 0x00, 0xFF, 0x40])) =
      .ok (.decLinkstat (bytes [0x80, 0x7F, 0xFF, 0x00, 0x00, 0xFF])) := by decide +kernel

/-- V-D2. -/
theorem test_decode_channels :
    decode (.frame (bytes ([0xC8, 0x18, 0x16] ++ List.replicate 22 0xFF ++ [0x0E]))) =
      .ok (.decChannels (List.replicate 22 0xFF#8)) := by decide +kernel

/-- V-D9. -/
theorem test_decode_attitude :
    decode (.frame (bytes [0xC8, 0x08, 0x1E, 0x80, 0x00, 0x00, 0x00, 0xFF, 0xFF, 0x9C])) =
      .ok (.decAttitude (bytes [0x80, 0x00, 0x00, 0x00, 0xFF, 0xFF])) := by decide +kernel

/-- V-D10. -/
theorem test_decode_flightmode :
    decode (.frame (bytes [0xC8, 0x07, 0x21, 0x41, 0x43, 0x52, 0x4F, 0x00, 0xC6])) =
      .ok (.decFlightmode (bytes [0x41, 0x43, 0x52, 0x4F, 0x00])) := by decide +kernel

/-- V-D23. -/
theorem test_decode_unknown :
    decode (.frame (bytes [0xC8, 0x02, 0x00, 0x16])) = .ok (.decUnknown 0x00#8 []) := by decide +kernel

/-- V-D25: an inner sync byte is the type byte of the frame. -/
theorem test_decode_sync_as_type :
    decode (.frame (bytes [0xC8, 0x04, 0xC8, 0x01, 0x02, 0xFF])) = .ok (.decUnknown 0xC8#8 (bytes [0x01, 0x02])) := by
  decide +kernel

/-- The classes of 30_encoding R111. -/
theorem test_decode_classes :
    decode (.step .notSync) = .ok .drop ∧ decode (.step .badLen) = .ok .lenReject ∧
      decode (.step .crcBad) = .ok .crcReject ∧ decode (.step .crcOk) = .ok .emit ∧
      decode (.step .sbusOk) = .ok .sbusAccept ∧ decode (.step .sbusBad) = .ok .sbusReject ∧
      decode (.step .waitSync) = .error .quiescent ∧ decode (.step .waitLen) = .error .quiescent ∧
      decode (.step .waitBody) = .error .quiescent := by decide +kernel

/-- The transactions of 30_encoding R107. -/
theorem test_decode_transactions :
    decode (.transaction (.push 0x5A#8)) = .ok (.push 0x5A#8) ∧
      decode (.transaction (.read 100#7)) = .ok (.read 100#7) ∧
      decode (.transaction (.write 0#7 2#32)) = .ok (.write 0#7 2#32) ∧
      decode (.transaction .pop) = .ok .pop ∧ decode (.transaction .reset) = .ok .reset := by decide +kernel

theorem test_decode_primitives :
    decode (.primitive (.crc8Step 1#8 2#8)) = .ok (.crc8Step 1#8 2#8) ∧
      decode (.primitive (.crc8 [3#8])) = .ok (.crc8 [3#8]) ∧
      decode (.primitive (.unpack [4#8])) = .ok (.unpack [4#8]) ∧
      decode (.primitive (.usMap 5#11)) = .ok (.usMap 5#11) := by decide +kernel

theorem test_decode_refuses_by_name :
    decode (.frame (bytes [0x0F, 0x02, 0x00, 0x16])) = .error .notSync ∧
      decode (.frame (bytes [0xC8, 0x01, 0x00])) = .error .badLength ∧
      decode (.frame (bytes [0xC8, 0x02, 0x00, 0x17])) = .error .crcMismatch ∧
      decode (.frame (bytes [0xC8, 0x02, 0x00])) = .error .incomplete := by decide +kernel

/-- V-D19 from the encoder's side. -/
theorem test_encode_vario :
    encode (.decVario (bytes [0x00, 0x0F])) = .frame (bytes [0xC8, 0x04, 0x07, 0x00, 0x0F, 0x9F]) := by decide +kernel

/-- The word of the row DEC_VARIO, and what the next step does with it. -/
theorem test_table_word :
    decodeTableWord 8 0x07 = some (.decVario (List.replicate 60 0)) ∧
      (match step (State.reset.withFetchWord 8 0x07) with
        | .next t => t.results.seq.vario
        | _ => 0) = 1#32 := by decide +kernel

/-! ### The decoders, by the vectors of part 2.4 -/

/-- V-D17: the most negative altitude. -/
theorem test_gps_extremes :
    ([92, 93, 94, 95, 96, 97].map (wordAfter (.decGps (bytes [0x80, 0, 0, 0, 0x7F, 0xFF, 0xFF, 0xFF, 0xFF, 0xFF, 0xFF, 0xFF,
      0x80, 0x00, 0xFF])) State.reset)) =
      [0x80000000, 0x7FFFFFFF, 0xFFFFFFFF, 0xFFFFFFFF, 0xFFFF7C18, 0xFF] := by decide +kernel

/-- V-D18: 14 bytes are too short, and `GPS_ALT` is not -1000. -/
theorem test_gps_too_short :
    ([5, 6, 13, 96].map (wordAfter (.decGps (List.replicate 14 0)) State.reset)) = [1, 0, 0, 0] := by decide +kernel

/-- V-D21: longer payloads are accepted. -/
theorem test_vario_long :
    ([100, 6, 14].map (wordAfter (.decVario (bytes [0x01, 0x00, 0xAA, 0xBB])) State.reset)) = [0x100, 0x20, 1] := by
  decide +kernel

/-- V-D22. -/
theorem test_vario_too_short :
    ([100, 5, 6].map (wordAfter (.decVario (bytes [0x12])) State.reset)) = [0, 1, 0] := by decide +kernel

/-- V-D14. -/
theorem test_battery :
    ([88, 89, 90, 91, 6].map (wordAfter (.decBattery (bytes [0x00, 0xA8, 0xFF, 0xF6, 0x01, 0x02, 0x03, 0x4B])) State.reset)) =
      [0xA8, 0xFFFFFFF6, 0x010103, 0x4B, 0x08] := by decide +kernel

/-- V-D15b: the shift by 7. -/
theorem test_battery_mah :
    wordAfter (.decBattery (bytes [0, 0, 0, 0, 0xFF, 0xFF, 0xFF, 0])) State.reset 90 = 0xFF7FFF := by decide +kernel

/-- V-D5. -/
theorem test_linkstat :
    ([64, 65, 66, 67, 6, 9].map (wordAfter (.decLinkstat (bytes [0xB5, 0xB0, 0x64, 0x0A, 0x00, 0x02, 0x03, 0x40, 0x64, 0x05]))
      State.reset)) = [0xFFFFFFB5, 0xFFFFFFB0, 0x64, 0x02, 0x01, 1] := by decide +kernel

/-- V-D3: three of the channels of program P1. -/
theorem test_channels :
    ([19, 26, 31, 6, 8].map (wordAfter (.decChannels (bytes [0x00, 0x08, 0x80, 0x00, 0x06, 0xC0, 0x0A, 0xF0, 0xFD, 0x0F, 0x80,
      0x01, 0x14, 0xE0, 0xC4, 0xFB, 0xEF, 0xFF, 0xFF, 0x57, 0x55, 0x55])) State.reset)) =
      [0x03DD0003, 0x07650713, 0x053102AA, 0, 1] := by decide +kernel

/-- V-D4. -/
theorem test_channels_too_short :
    ([16, 8, 5].map (wordAfter (.decChannels (List.replicate 21 0)) State.reset)) = [0x05DC0400, 0, 1] := by decide +kernel

/-- V-D8. -/
theorem test_attitude :
    ([68, 69, 70, 6].map (wordAfter (.decAttitude (bytes [0x03, 0xE8, 0xFC, 0x18, 0x7F, 0xFF])) State.reset)) =
      [0x3E8, 0xFFFFFC18, 0x7FFF, 0x02] := by decide +kernel

/-- V-D11: trimmed at both ends, and the byte after the NUL ignored. -/
theorem test_flightmode_trim :
    ([72, 73, 74].map (wordAfter (.decFlightmode (bytes [0x20, 0x20, 0x41, 0x4E, 0x47, 0x4C, 0x09, 0x00, 0x58]))
      State.reset)) = [4, 0x4C474E41, 0] := by decide +kernel

/-- V-D12: no NUL. -/
theorem test_flightmode_no_nul :
    ([72, 73, 74, 6].map (wordAfter (.decFlightmode (bytes [0x48, 0x4F, 0x52, 0x49, 0x5A, 0x4F, 0x4E])) State.reset)) =
      [7, 0x49524F48, 0x004E4F5A, 0x04] := by decide +kernel

/-- V-D24. -/
theorem test_unknown : perform (.decUnknown 0x3A#8 (bytes [0x01])) State.reset = State.reset := by decide +kernel

/-! ### The engine's steps, by the vectors of part 2.5 -/

theorem test_drop :
    (perform .drop (withBuf [0x0F, 0xC8, 0x02])).buf = bytes [0xC8, 0x02] ∧
      wordAfter .drop (withBuf [0x0F, 0xC8, 0x02]) 4 = 1 := by decide +kernel

/-- V-S10: a length byte that is a sync byte. -/
theorem test_len_reject :
    (perform .lenReject (withBuf [0xC8, 0xC8, 0x02, 0x00, 0x16])).buf = bytes [0xC8, 0x02, 0x00, 0x16] ∧
      (perform .lenReject (withBuf [0xC8, 0xC8, 0x02, 0x00, 0x16])).evq.map word0 = [0x5] := by decide +kernel

/-- V-S5. -/
theorem test_crc_reject :
    (perform .crcReject (withBuf [0xC8, 0x02, 0x00, 0x17])).buf = bytes [0x02, 0x00, 0x17] ∧
      (perform .crcReject (withBuf [0xC8, 0x02, 0x00, 0x17])).evq.map word0 = [0x9] := by decide +kernel

/-- V-S12: the swallowed frame. -/
theorem test_emit :
    (perform .emit (withBuf [0xC8, 0x08, 0xC8, 0x04, 0x07, 0x00, 0x0F, 0x9F, 0x55, 0x99, 0x01])).buf = bytes [0x01] ∧
      (perform .emit (withBuf [0xC8, 0x08, 0xC8, 0x04, 0x07, 0x00, 0x0F, 0x9F, 0x55, 0x99])).evq.map word0 = [0x0006C800] := by
  decide +kernel

/-- V-S13: the held frame, and the hold lifted by one POP. -/
theorem test_emit_held :
    perform .emit (fullQueue [0xC8, 0x03, 0x3A, 0x01, 0xCE]) = fullQueue [0xC8, 0x03, 0x3A, 0x01, 0xCE] ∧
      (readAt (fullQueue [0xC8, 0x03, 0x3A, 0x01, 0xCE]) 1).toNat = 0x03010523 ∧
      wordAfter .emit (perform .pop (fullQueue [0xC8, 0x03, 0x3A, 0x01, 0xCE])) 1 = 0x00010028 := by decide +kernel

/-- 42_synchronizer R141: without S.Bus both steps change nothing. -/
theorem test_sbus_absent :
    perform .sbusAccept (withBuf (List.replicate 25 0x0F)) = withBuf (List.replicate 25 0x0F) ∧
      perform .sbusReject (withBuf (List.replicate 25 0x0F)) = withBuf (List.replicate 25 0x0F) := by decide +kernel

/-- 42_synchronizer R140: an S.Bus candidate waits for its 25th byte. -/
theorem test_sbus_waits : classOf (withSbus (List.replicate 24 0x0F)) = .waitBody := by decide +kernel

/-! ### The primitives, by the vectors of parts 2.1 to 2.3 -/

/-- V-C4 and V-C5. -/
theorem test_crc8_step :
    (perform (.crc8Step 0x00#8 0xFF#8) State.reset).log = [.checksum 0xF9#8] ∧ crc8Step 0x00#8 0x31#8 = 0x23#8 := by
  decide +kernel

/-- V-C7 and V-C10. -/
theorem test_crc8 :
    (perform (.crc8 (bytes [0x31, 0x32, 0x33, 0x34, 0x35, 0x36, 0x37, 0x38, 0x39])) State.reset).log = [.checksum 0xBC#8] ∧
      crc8 (bytes [0x02, 0x16]) = 0xC5#8 := by decide +kernel

/-- V-U13: lane 15 alone. -/
theorem test_unpack :
    (perform (.unpack (bytes (List.replicate 20 0 ++ [0xE0, 0xFF]))) State.reset).log =
      [.lanes (#v[0, 0, 0, 0, 0, 0, 0, 0, 0, 0, 0, 0, 0, 0, 0, 2047#11])] := by decide +kernel

/-- V-U6. -/
theorem test_unpack_short :
    (perform (.unpack (List.replicate 21 0)) State.reset).log = [.error .insufficientData] := by decide +kernel

/-- V-U14. -/
theorem test_pack :
    pack (Vector.ofFn fun k => if k.val % 2 = 0 then 2047#11 else 0#11) =
      bytes [0xFF, 0x07, 0xC0, 0xFF, 0x01, 0xF0, 0x7F, 0x00, 0xFC, 0x1F, 0x00, 0xFF, 0x07, 0xC0, 0xFF, 0x01, 0xF0, 0x7F, 0x00,
        0xFC, 0x1F, 0x00] := by decide +kernel

/-- V-M2 to V-M4. -/
theorem test_us_map :
    ([172, 682, 992, 1023, 1024, 1025, 1026, 1811, 2047].map fun v => usMap (BitVec.ofNat 11 v)) =
      [1074, 1329, 1484, 1499, 1500, 1500, 1501, 1893, 2012] := by decide +kernel

/-! ### The transactions, by the vectors of part 2.6 -/

/-- V-H8. -/
theorem test_push : wordAfter (.push 0xC8#8) State.reset 1 = 0x00000109 := by decide +kernel

/-- A byte is not taken while a step is enabled (42_synchronizer R161). -/
theorem test_push_not_ready : perform (.push 0x00#8) (withBuf [0x00]) = withBuf [0x00] := by decide +kernel

/-- V-H2 and V-H5. -/
theorem test_read :
    (perform (.read 1#7) State.reset).log = [.data 8#32] ∧ (perform (.read 127#7) State.reset).log = [.data 0#32] := by
  decide +kernel

/-- V-H6 and V-H7. -/
theorem test_write :
    wordAfter (.write 0#7 0xFFFFFFFF#32) State.reset 0 = 1 ∧ wordAfter (.write 2#7 5#32) State.reset 2 = 0 := by
  decide +kernel

/-- The record of V-D19: PLEN 2, type 0x07, payload bytes 00 0F. -/
theorem test_pop :
    (perform .pop (fullQueue [])).log = [.event 0x0F0000020700#512] ∧ (perform .pop (fullQueue [])).evq = [] := by
  decide +kernel

/-- V-H9. -/
theorem test_pop_empty : perform .pop State.reset = State.reset := by decide +kernel

/-- V-H3. -/
theorem test_reset :
    wordAfter .reset { fullQueue [0xC8] with framesValidated := 7 } 1 = 8 ∧
      wordAfter .reset { fullQueue [0xC8] with framesValidated := 7 } 2 = 0 ∧
      wordAfter .reset (fullQueue [0xC8]) 31 = 0x05DC0400 := by decide +kernel

/-! ### Witnesses: the hypotheses of the statements can be met -/

theorem witness_UnpackAnswersTheStreamBits :
    (List.replicate 21 0#8).length < 22 ∧ 22 ≤ (List.replicate 22 0#8).length ∧ (0 < 16 ∧ 15 < 16) ∧ (0 < 11 ∧ 10 < 11) := by
  decide +kernel

theorem witness_UnpackIsTheIntegerShift : 22 ≤ (List.replicate 22 0#8).length ∧ 15 < 16 := by decide +kernel

theorem witness_UsMapScalesAndTruncates : 0 < 2047 ∧ 2046 < 2047 := by decide +kernel

theorem witness_DecLinkstat : (List.replicate 5 0#8).length < 6 ∧ 6 ≤ (List.replicate 6 0#8).length := by decide +kernel

theorem witness_DecAttitude : (List.replicate 5 0#8).length < 6 ∧ 6 ≤ (List.replicate 6 0#8).length := by decide +kernel

theorem witness_DecFlightmode :
    ([] : List Byte).length ≤ 60 ∧ ([] : List Byte).length < 1 ∧ 1 ≤ [0x20#8].length ∧ [0x20#8].length ≤ 60 ∧
      maxPayload.length ≤ 60 := by decide +kernel

theorem witness_DecBattery : (List.replicate 7 0#8).length < 8 ∧ 8 ≤ (List.replicate 8 0#8).length := by decide +kernel

theorem witness_DecGps : (List.replicate 14 0#8).length < 15 ∧ 15 ≤ (List.replicate 15 0#8).length := by decide +kernel

theorem witness_DecVario : (List.replicate 1 0#8).length < 2 ∧ 2 ≤ (List.replicate 2 0#8).length := by decide +kernel

theorem witness_DecChannels : (List.replicate 21 0#8).length < 22 ∧ 22 ≤ (List.replicate 22 0#8).length := by decide +kernel

theorem witness_DecUnknown :
    0x00#8 ∉ [0x02#8, 0x07#8, 0x08#8, 0x14#8, 0x16#8, 0x1E#8, 0x21#8] ∧
      0xFF#8 ∉ [0x02#8, 0x07#8, 0x08#8, 0x14#8, 0x16#8, 0x1E#8, 0x21#8] := by decide +kernel

theorem witness_DecodeInvertsEncode : (Instr.decUnknown 0x00#8 []).wf = true ∧ Instr.emit.wf = true := by decide +kernel

theorem witness_FramesAreReadBackExactly :
    (Instr.decUnknown 0x00#8 []).wf = true ∧ encode (.decUnknown 0x00#8 []) = .frame (bytes [0xC8, 0x02, 0x00, 0x16]) ∧
      decodeFrame (bytes [0xC8, 0x02, 0x00, 0x16, 0xC8]) = .ok (.decUnknown 0x00#8 [], bytes [0xC8]) := by decide +kernel

theorem witness_EncodedFramesHaveTheWireFormat :
    (Instr.decGps maxPayload).wf = true ∧ encode (.decGps maxPayload) = .frame (frameBytes 0x02#8 maxPayload) := by
  decide +kernel

/-- One buffer for each class that does not rest on the open predicate. -/
theorem witness_ClassesHaveTheConditionsOfTheTable :
    classOf State.reset = .waitSync ∧ classOf (withBuf [0x0F]) = .notSync ∧ classOf (withBuf [0xC8]) = .waitLen ∧
      classOf (withBuf [0xC8, 0x01]) = .badLen ∧ classOf (withBuf [0xC8, 0x3F]) = .badLen ∧
      classOf (withBuf [0xC8, 0x3E]) = .waitBody ∧ classOf (withBuf [0xC8, 0x02, 0x00, 0x16]) = .crcOk ∧
      classOf (withBuf [0xC8, 0x02, 0x00, 0x17]) = .crcBad ∧ classOf (withSbus [0x0F]) = .waitBody := by decide +kernel

theorem witness_QuiescentBuffersHaveThreeShapes :
    quiescent State.reset = true ∧ quiescent (withBuf [0xC8]) = true ∧
      quiescent (withBuf ([0xC8, 0x3E] ++ List.replicate 61 0)) = true ∧
      quiescent (withSbus (0x0F :: List.replicate 23 0)) = true ∧ quiescent (withBuf [0x00]) = false := by decide +kernel

theorem witness_AtMostOneEngineStepIsEnabled :
    Instr.drop ∈ engineSteps ∧ exec .drop (withBuf [0x00]) = .next (perform .drop (withBuf [0x00])) ∧
      perform .drop (withBuf [0x00]) ≠ withBuf [0x00] :=
  ⟨by decide +kernel, rfl, by decide +kernel⟩

theorem witness_DropConsumesOneNonSyncByte :
    (withBuf [0x0F, 0xC8]).buf = 0x0F#8 :: [0xC8#8] ∧ 0x0F#8 ≠ 0xC8#8 ∧
      ¬((withBuf [0x0F, 0xC8]).params.sbusImpl = true) := by decide +kernel

theorem witness_LenRejectConsumesOnlyTheSyncByte :
    (withBuf [0xC8, 0x01]).buf = 0xC8#8 :: 0x01#8 :: [] ∧ (0x01#8).toNat < 2 ∧
      (withBuf [0xC8, 0x3F, 0x00]).buf = 0xC8#8 :: 0x3F#8 :: [0x00#8] ∧ 62 < (0x3F#8).toNat ∧
      (withBuf [0xC8, 0x01]).evq.length < (withBuf [0xC8, 0x01]).params.evDepth := by decide +kernel

theorem witness_CrcRejectConsumesOnlyTheSyncByte :
    (withBuf [0xC8, 0x02, 0x00, 0x17]).buf = 0xC8#8 :: 0x02#8 :: ([0x00#8] ++ 0x17#8 :: []) ∧
      [0x00#8].length + 1 = (0x02#8).toNat ∧ 0x17#8 ≠ crc8 (0x02#8 :: [0x00#8]) ∧
      (withBuf ([0xC8, 0x3E] ++ List.replicate 61 0 ++ [0x55])).buf =
        0xC8#8 :: 0x3E#8 :: (List.replicate 61 0#8 ++ 0x55#8 :: []) ∧
      (List.replicate 61 0#8).length + 1 = (0x3E#8).toNat ∧ 0x55#8 ≠ crc8 (0x3E#8 :: List.replicate 61 0#8) ∧
      (withBuf []).evq.length < (withBuf []).params.evDepth := by decide +kernel

theorem witness_EmitDecodesCountsReportsAndConsumes :
    (withBuf [0xC8, 0x02, 0x00, 0x16, 0x01]).buf = frame 0x00#8 [] ++ [0x01#8] ∧
      { withBuf [] with buf := frame 0x21#8 maxPayload }.buf = frame 0x21#8 maxPayload ++ [] ∧ maxPayload.length ≤ 60 ∧
      (withBuf []).evq.length < (withBuf []).params.evDepth := by decide +kernel

/-- A complete S.Bus candidate with room for its event. -/
theorem witness_SbusCandidateIsAcceptedOrRejected :
    (withSbus (List.replicate 25 0x0F ++ [0x01])).params.sbusImpl = true ∧
      (withSbus (List.replicate 25 0x0F ++ [0x01])).ctrl.sbusEn = true ∧
      (withSbus (List.replicate 25 0x0F ++ [0x01])).buf = List.replicate 25 0x0F#8 ++ [0x01#8] ∧
      (List.replicate 25 0x0F#8).length = 25 ∧ (List.replicate 25 0x0F#8).head? = some 0x0F#8 ∧
      (withSbus []).evq.length < (withSbus []).params.evDepth := by decide +kernel

theorem witness_SbusStepsExistOnlyWhenEnabled :
    ¬((withBuf [0x0F]).params.sbusImpl = true ∧ (withBuf [0x0F]).ctrl.sbusEn = true) ∧
      (withBuf [0x0F]).buf.head? = some 0x0F#8 := by decide +kernel

theorem witness_FullQueueHoldsTheEmittingSteps :
    (fullQueue [0xC8, 0x01]).ctrl.evEn = true ∧
      (fullQueue [0xC8, 0x01]).evq.length = (fullQueue [0xC8, 0x01]).params.evDepth ∧
      1 ≤ (fullQueue [0xC8, 0x01]).params.evDepth ∧ emits (classOf (fullQueue [0xC8, 0x01])) = true ∧
      classOf (fullQueue [0x00]) = .notSync ∧ (0#32).getLsbD 0 = false := by decide +kernel

theorem witness_EveryEngineStepConsumesAndCounts :
    quiescent (withBuf [0xC8, 0x02, 0x00, 0x16]) = false ∧ held (withBuf [0xC8, 0x02, 0x00, 0x16]) = false ∧
      classOf (withBuf [0xC8, 0x02, 0x00, 0x16]) = .crcOk ∧ quiescent (withBuf [0x00]) = false ∧
      held (withBuf [0x00]) = false := by decide +kernel

theorem witness_NoiseIsDroppedByteByByte :
    (withBuf [0x00, 0x0F, 0xC8]).buf = [0x00#8, 0x0F#8] ++ [0xC8#8] ∧
      (∀ b ∈ [0x00#8, 0x0F#8], b ≠ 0xC8#8) ∧ ¬((withBuf [0x00, 0x0F, 0xC8]).params.sbusImpl = true) := by decide +kernel

/-- A length byte below 2, one above 62, and one that is a sync byte, each before a frame with no payload. -/
theorem witness_FrameBehindABadLengthIsStillDetected :
    (withBuf [0xC8, 0x01, 0xC8, 0x02, 0x00, 0x16]).buf = 0xC8#8 :: 0x01#8 :: (frame 0x00#8 [] ++ []) ∧
      (withBuf [0xC8, 0x3F, 0xC8, 0x02, 0x00, 0x16]).buf = 0xC8#8 :: 0x3F#8 :: (frame 0x00#8 [] ++ []) ∧
      (withBuf [0xC8, 0xC8, 0xC8, 0x02, 0x00, 0x16]).buf = 0xC8#8 :: 0xC8#8 :: (frame 0x00#8 [] ++ []) ∧
      (0x01#8).toNat < 2 ∧ 62 < (0x3F#8).toNat ∧ 62 < (0xC8#8).toNat ∧
      (withBuf []).evq.length + 3 ≤ (withBuf []).params.evDepth := by decide +kernel

theorem witness_NoOperationDiscardsAPendingCandidate :
    quiescent (withBuf [0xC8, 0x05]) = true ∧ Instr.push 0x01#8 ≠ .reset ∧
      exec (.push 0x01#8) (withBuf [0xC8, 0x05]) = .next (withBuf [0xC8, 0x05, 0x01]) :=
  ⟨by decide +kernel, by decide +kernel, next_of_after (by decide +kernel)⟩

/-- A state with a pending candidate, an event, a FlightMode record and a GPS altitude meets the invariant. -/
def busyState : State :=
  perform (.decGps (List.replicate 15 0))
    (perform (.decFlightmode (bytes [0x41, 0x43, 0x52, 0x4F, 0x00])) (fullQueue [0xC8, 0x01, 0x00]))

theorem busyState_str : busyState.results.flightMode.str = padTo60 (bytes [0x41, 0x43, 0x52, 0x4F]) := by decide +kernel

theorem busyState_len : busyState.results.flightMode.len = 4#6 := by decide +kernel

/-- It serves every statement whose hypothesis is `StateInv`. -/
theorem witness_StateInv : StateInv busyState where
  params := by decide +kernel
  buf := by decide +kernel
  evq := by decide +kernel
  sbusEn := by decide +kernel
  fmLen := by decide +kernel
  fmTail := by
    intro i hi
    rw [busyState_len] at hi
    rw [busyState_str]
    replace hi : 4 ≤ i := hi
    have h4 : (bytes [0x41, 0x43, 0x52, 0x4F]).length ≤ i := hi
    by_cases h : i < 60
    · simp [padTo60, List.getD_eq_getElem?_getD, h, List.getElem?_eq_none h4]
    · simp [padTo60, List.getD_eq_getElem?_getD, h]
  noRecord := by
    intro k
    cases k <;> simp only [recordAtReset] <;> decide +kernel
  mahBit := by decide +kernel
  altRange := by decide +kernel

/-- The state is held, so one step of it is a next state and SETTLE has work to do. -/
theorem witness_EveryStepKeepsTheInvariant : step busyState = .next busyState ∧ quiescent busyState = false :=
  ⟨next_of_after (by decide +kernel), by decide +kernel⟩

theorem witness_SignalsAreWhatTheCountersCount :
    Instr.emit ≠ .reset ∧
      exec .emit (withBuf [0xC8, 0x03, 0x07, 0x12, 0x4C]) = .next (perform .emit (withBuf [0xC8, 0x03, 0x07, 0x12, 0x4C])) ∧
      signals .emit (withBuf [0xC8, 0x03, 0x07, 0x12, 0x4C]) = some .payloadTooShort ∧
      signals .lenReject (withBuf [0xC8, 0x01]) = some .malformedLength ∧
      signals .crcReject (withBuf [0xC8, 0x02, 0x00, 0x17]) = some .crcMismatch :=
  ⟨by decide +kernel, rfl, by decide +kernel⟩

theorem witness_OnlyResetLowersACounter :
    exec (.read 2#7) State.reset = .next (perform (.read 2#7) State.reset) ∧ isHostOrPrimitive (.read 2#7) = true :=
  ⟨rfl, by decide +kernel⟩

theorem witness_OnlyItsDecoderWritesARecord :
    exec (.decVario (bytes [0x00, 0x0F])) State.reset = .next (perform (.decVario (bytes [0x00, 0x0F])) State.reset) ∧
      (perform (.decVario (bytes [0x00, 0x0F])) State.reset).results.vario ≠ State.reset.results.vario :=
  ⟨rfl, by decide +kernel⟩

theorem witness_SequenceCountersMarkEveryCommit :
    Instr.decVario (bytes [0x00, 0x0F]) ≠ .reset ∧
      (perform (.decVario (bytes [0x00, 0x0F])) State.reset).results.seq.vario = 1#32 := by decide +kernel

theorem witness_ParametersNeverChange :
    exec (.write 0#7 0#32) State.reset = .next (perform (.write 0#7 0#32) State.reset) ∧
      (perform (.write 0#7 0#32) State.reset).ctrl ≠ State.reset.ctrl :=
  ⟨rfl, by decide +kernel⟩

theorem witness_EventsEnterAndLeaveInOrder :
    Instr.pop ≠ .reset ∧ exec .pop (fullQueue []) = .next (perform .pop (fullQueue [])) ∧
      exec .lenReject (withBuf [0xC8, 0x01]) = .next (perform .lenReject (withBuf [0xC8, 0x01])) :=
  ⟨by decide +kernel, rfl, rfl⟩

theorem witness_ReservedWords :
    (7 < 128 ∧ 15 < 128 ∧ 32 < 128 ∧ 63 < 128 ∧ 71 < 128 ∧ 98 < 128 ∧ 99 < 128 ∧ 101 < 128 ∧ 127 < 128) ∧
      1#7 ≠ 0#7 ∧ 127#7 ≠ 0#7 := by decide +kernel

theorem witness_ReadAnswersTheFlightModeWords : 0 < 15 ∧ 14 < 15 ∧ 4 * 14 + 3 < 60 := by decide +kernel

theorem witness_PushAppendsExactlyWhenReady : quiescent State.reset = true ∧ quiescent (withBuf [0x00]) = false := by
  decide +kernel

theorem witness_PopAnswersTheOldestRecord :
    (fullQueue []).evq = crsfAccepted 0x07#8 (bytes [0x00, 0x0F]) :: [] ∧ State.reset.evq = [] := by decide +kernel

theorem witness_ResetPutsEveryElementAtItsValue : (fullQueue [0xC8]).params.wf = true := by decide +kernel

/-- One Vario record, and a frame with the next one in the buffer: the engine's next step replaces the record. -/
def tearing : State :=
  { perform (.decVario (bytes [0x00, 0x0F])) State.reset with buf := bytes [0xC8, 0x04, 0x07, 0xFF, 0x9C, 0xF0] }

/-- 44_host_interface R206 and 20_memory R70: the step between the READs changes the word, and the protocol sees it. -/
theorem test_separate_reads :
    (currentTelemetry .vario [] tearing).1 = some [0x0F#32] ∧
      (currentTelemetry .vario [0, 1] tearing).1 = some [0xFFFFFF9C#32] ∧
      (consistentRead (.telemetry .linkStat) [] tearing).1 = some [0, 0, 0, 0] ∧
      (consistentRead (.telemetry .vario) [0, 0, 1] tearing).1 = none := by decide +kernel

/-- 44_host_interface R205 and R207: a step between two READs of one call. -/
theorem test_calls_across_steps :
    (stats [0, 1] tearing).1 = [0, 0, 6] ∧ (stats [1] tearing).1 = [1, 0, 6] ∧
      (currentChannels [0, 0, 1] tearing).1 = List.replicate 16 0x05DC0400#32 := by decide +kernel

theorem witness_TelemetryIsNoneExactlyWithoutARecord :
    busyState.results.recValid.getLsbD (kindBit .gps) = true ∧
      busyState.results.recValid.getLsbD (kindBit .vario) = false ∧ runSteps ([].headD 0) busyState = busyState ∧
      15 < (groupWords .channels).length ∧ Request.reset ∉ tearing.requests ∧ [1, 0].sum < 2 ^ 32 ∧
      (consistentRead (.telemetry .vario) [1, 0] tearing).1 = some [0xFFFFFF9C#32] := by decide +kernel

theorem witness_StepRunsTheDecodedOperation :
    fetch (withBuf [0x00]) = some (.step .notSync) ∧ decode (.step .notSync) = .ok .drop ∧
      fetch State.reset = some (.step .waitSync) ∧ decode (.step .waitSync) = .error .quiescent ∧
      fetch { State.reset with sched := [.byteSource] } = none ∧
      ({ State.reset with sched := [.engine, .host] } : State).sched = .engine :: [.host] := by decide +kernel

/-- The turns of the other agents, with something to offer and without. -/
theorem witness_StepRunsTheDecodedOperation_turns :
    { State.reset with sched := [.host], requests := [.write 0#7 0#32, .reset] }.requests =
        .write 0#7 0#32 :: [.reset] ∧
      ({ State.reset with sched := [.host] } : State).requests = [] ∧
      ({ State.reset with sched := [.byteSource], source := [0xC8#8] } : State).source = 0xC8#8 :: [] ∧
      ({ State.reset with sched := [.byteSource] } : State).source = [] ∧
      ({ State.reset with sched := [.eventConsumer] } : State).sched = .eventConsumer :: [] := by decide +kernel

/-- The byte source's turn with one byte to push, on a buffer. -/
def pushing (l : List Nat) : State := { withBuf l with sched := [.byteSource], source := [0xC8#8] }

theorem witness_RefusedBytesStayWithTheSource :
    (pushing []).sched = .byteSource :: [] ∧ (pushing []).source = 0xC8#8 :: [] ∧ quiescent (pushing []) = true ∧
      quiescent (pushing [0x00]) = false := by decide +kernel

theorem witness_EveryStepAnswersANextState : State.reset.sched = [] ∧ quiescent State.reset = true := by decide +kernel

theorem witness_WithoutAConsumerAHeldEngineHangs :
    (fullQueue [0xC8, 0x01]).ctrl.evEn = true ∧
      (fullQueue [0xC8, 0x01]).evq.length = (fullQueue [0xC8, 0x01]).params.evDepth ∧
      emits (classOf (fullQueue [0xC8, 0x01])) = true ∧
      (∀ a ∈ [Agent.engine, .byteSource], a = .engine ∨ a = .byteSource) := by decide +kernel

theorem witness_RingFormRefinesTheBuffer :
    ringWf ⟨Vector.replicate 64 0, 63#6, 63#7⟩ = true ∧ (63#7).toNat < 64 ∧
      ringWf ⟨Vector.replicate 64 0, 63#6, 64#7⟩ = true ∧ 64 ≤ (64#7).toNat := by decide +kernel

end Sys2Proof.Tests
end

/-! # Proofs for 00_scope

Frames as they are encoded (O18), the step as the operation its agent offers (O54), and the totality of the
operations and of the step (O56). -/

namespace Sys2Proof.Machine

/-! ### The frame that an operation encodes to -/

/-- The frame written out: sync byte, length byte, the other covered bytes, CRC byte (30_encoding R81, R84). -/
theorem frameBytes_eq (t : Byte) (p : List Byte) :
    frameBytes t p = Config.crsfSync :: BitVec.ofNat 8 (p.length + 2) ::
      ((t :: p) ++ [crc8 (BitVec.ofNat 8 (p.length + 2) :: t :: p)]) := rfl

@[simp] theorem length_frameBytes (t : Byte) (p : List Byte) : (frameBytes t p).length = p.length + 4 := by
  simp [frameBytes_eq]

@[simp] theorem frameBytes_getD_zero (t : Byte) (p : List Byte) : (frameBytes t p).getD 0 0#8 = 0xC8#8 := rfl

@[simp] theorem frameBytes_getD_one (t : Byte) (p : List Byte) :
    (frameBytes t p).getD 1 0#8 = BitVec.ofNat 8 (p.length + 2) := rfl

/-- No payload that fits a frame wraps the length byte around. -/
theorem toNat_lengthByte {p : List Byte} (hp : p.length ≤ 60) :
    (BitVec.ofNat 8 (p.length + 2)).toNat = p.length + 2 := by
  rw [BitVec.toNat_ofNat]; omega

/-- The bytes that the CRC covers, `frame[1..L]`. -/
theorem frameBytes_covered (t : Byte) (p : List Byte) :
    ((frameBytes t p).drop 1).take (p.length + 2) = BitVec.ofNat 8 (p.length + 2) :: t :: p := by
  simp [frameBytes_eq]

theorem frameBytes_getD_last (t : Byte) (p : List Byte) :
    (frameBytes t p).getD (p.length + 3) 0#8 = crc8 (BitVec.ofNat 8 (p.length + 2) :: t :: p) := by
  simp [frameBytes_eq]

/-- Only decoders encode to a frame, and a well-formed one's payload fits it (30_encoding R86, 00_scope R10). -/
theorem encode_eq_frame_inv {i : Instr} {fr : List Byte} (hwf : i.wf = true) (h : encode i = .frame fr) :
    ∃ t p, p.length ≤ 60 ∧ fr = frameBytes t p := by
  cases i
  case decGps p | decVario p | decBattery p | decLinkstat p | decChannels p | decAttitude p | decFlightmode p =>
    exact ⟨_, p, of_decide_eq_true hwf, (Code.frame.inj h).symm⟩
  case decUnknown t p =>
    exact ⟨t, p, of_decide_eq_true (Bool.and_eq_true_iff.mp hwf).1, (Code.frame.inj h).symm⟩
  all_goals nomatch h

/-! ### What the agent whose turn it is offers, and the state in which its turn is over -/

section
variable {s : State} {rest : List Agent}

theorem fetch_of_engine (h : agentOf s = .engine) : fetch s = some (.step (classOf s)) := by
  rw [fetch, h]

theorem fetch_of_eventConsumer (h : agentOf s = .eventConsumer) : fetch s = some (.transaction .pop) := by
  rw [fetch, h]

theorem fetch_of_host (h : agentOf s = .host) :
    fetch s = s.requests.head?.map fun r => .transaction (requestTransaction r) := by
  rw [fetch, h]

theorem fetch_of_byteSource (h : agentOf s = .byteSource) :
    fetch s = s.source.head?.map fun b => .transaction (.push b) := by
  rw [fetch, h]

theorem endTurn_of_engine (h : agentOf s = .engine) : endTurn s = { s with sched := s.sched.tail } := by
  rw [endTurn, h]

theorem endTurn_of_eventConsumer (h : agentOf s = .eventConsumer) : endTurn s = { s with sched := s.sched.tail } := by
  rw [endTurn, h]

theorem endTurn_of_host (h : agentOf s = .host) :
    endTurn s = { s with sched := s.sched.tail, requests := s.requests.tail } := by
  rw [endTurn, h]

theorem endTurn_of_byteSource (h : agentOf s = .byteSource) :
    endTurn s =
      { s with sched := s.sched.tail, source := if quiescent s = true then s.source.tail else s.source } := by
  rw [endTurn, h]; rfl

theorem agentOf_of_sched_cons {a : Agent} (h : s.sched = a :: rest) : agentOf s = a := by
  rw [agentOf, h, List.headD_cons]

/-- With nobody scheduled the turn is the engine's. -/
theorem agentOf_of_sched_nil (h : s.sched = []) : agentOf s = .engine := by
  rw [agentOf, h, List.headD_nil]

/-- Ending the engine's turn when nobody is scheduled changes nothing. -/
theorem endTurn_of_sched_nil (h : s.sched = []) : endTurn s = s := by
  rw [endTurn_of_engine (agentOf_of_sched_nil h), h, List.tail_nil, ← h]

end

/-! ### The step -/

/-- No operation faults or is refused (00_scope R16). -/
theorem exec_eq_next_perform (i : Instr) (s : State) : exec i s = .next (perform i s) := by
  cases i <;> rfl

section
variable {s : State}

theorem step_of_decode_ok {c : Code} {i : Instr} (hf : fetch s = some c) (hd : decode c = .ok i) :
    step s = exec i (endTurn s) := by
  simp only [step, hf, hd]

theorem step_of_decode_error {c : Code} {e : DecodeError} (hf : fetch s = some c) (hd : decode c = .error e) :
    step s = .next (endTurn s) := by
  simp only [step, hf, hd]

theorem step_of_fetch_none (hf : fetch s = none) : step s = .next (endTurn s) := by
  simp only [step, hf]

/-- Everything a step can do: only the turn passes, or the operation that was decoded runs after it. -/
theorem step_cases (s : State) :
    step s = .next (endTurn s) ∨
      ∃ c i, fetch s = some c ∧ decode c = .ok i ∧ step s = .next (perform i (endTurn s)) := by
  cases hf : fetch s with
  | none => exact .inl (step_of_fetch_none hf)
  | some c =>
    cases hd : decode c with
    | error e => exact .inl (step_of_decode_error hf hd)
    | ok i => exact .inr ⟨c, i, rfl, hd, by rw [step_of_decode_ok hf hd, exec_eq_next_perform]⟩

theorem step_eq_next (s : State) : ∃ t, step s = .next t := by
  rcases step_cases s with h | ⟨_, _, _, _, h⟩ <;> exact ⟨_, h⟩

/-- A waiting class selects no engine step (42_synchronizer R142). -/
theorem decodeStep_of_isWaiting {c : StepClass} (h : isWaiting c = true) : decodeStep c = .error .quiescent := by
  cases c
  case waitSync | waitLen | waitBody => rfl
  all_goals nomatch h

/-- In a quiescent state the engine's turn only passes (42_synchronizer R158). -/
theorem step_of_engine_quiescent (ha : agentOf s = .engine) (hq : quiescent s = true) :
    step s = .next (endTurn s) :=
  step_of_decode_error (fetch_of_engine ha) (decodeStep_of_isWaiting hq)

theorem step_of_eventConsumer (ha : agentOf s = .eventConsumer) : step s = exec .pop (endTurn s) :=
  step_of_decode_ok (fetch_of_eventConsumer ha) rfl

theorem step_of_host_request {r : Request} {more : List Request} (ha : agentOf s = .host)
    (hr : s.requests = r :: more) : step s = exec (decodeTransaction (requestTransaction r)) (endTurn s) :=
  step_of_decode_ok (by rw [fetch_of_host ha, hr]; rfl) rfl

theorem step_of_host_idle (ha : agentOf s = .host) (hr : s.requests = []) : step s = .next (endTurn s) :=
  step_of_fetch_none (by rw [fetch_of_host ha, hr]; rfl)

theorem step_of_byteSource_byte {b : Byte} {more : List Byte} (ha : agentOf s = .byteSource)
    (hb : s.source = b :: more) : step s = exec (.push b) (endTurn s) :=
  step_of_decode_ok (by rw [fetch_of_byteSource ha, hb]; rfl) rfl

theorem step_of_byteSource_idle (ha : agentOf s = .byteSource) (hb : s.source = []) : step s = .next (endTurn s) :=
  step_of_fetch_none (by rw [fetch_of_byteSource ha, hb]; rfl)

end

end Sys2Proof.Machine

namespace Sys2Proof.Spec

open Sys2Proof.Machine

/-- Settles O18: a frame is `frameBytes` of a payload of at most 60 bytes, so its length byte does not wrap and every
place in it is known. -/
theorem encodedFramesHaveTheWireFormat : Obligations.EncodedFramesHaveTheWireFormat := by
  unfold Obligations.EncodedFramesHaveTheWireFormat
  intro i fr hwf henc
  obtain ⟨t, p, hp, rfl⟩ := encode_eq_frame_inv hwf henc
  rw [frameBytes_getD_one, toNat_lengthByte hp, length_frameBytes, frameBytes_covered]
  exact ⟨rfl, by omega, by omega, rfl, by omega, frameBytes_getD_last t p⟩

/-- Settles O54, agent by agent: what the agent offers, what its code decodes to, and what its turn leaves. -/
theorem stepRunsTheDecodedOperation : Obligations.StepRunsTheDecodedOperation := by
  unfold Obligations.StepRunsTheDecodedOperation
  intro s
  refine ⟨fun c i => step_of_decode_ok, fun c e => step_of_decode_error, step_of_fetch_none, ?engine, ?eventConsumer,
    ?hostRequest, ?hostIdle, ?sourceByte, ?sourceIdle⟩
  case engine =>
    rintro rest (hs | ⟨hs, rfl⟩)
    · have ha := agentOf_of_sched_cons hs
      exact ⟨fetch_of_engine ha, by rw [endTurn_of_engine ha, hs, List.tail_cons]⟩
    · have ha := agentOf_of_sched_nil hs
      exact ⟨fetch_of_engine ha, by rw [endTurn_of_engine ha, hs, List.tail_nil]⟩
  case eventConsumer =>
    intro rest hs
    have ha := agentOf_of_sched_cons hs
    rw [step_of_eventConsumer ha, endTurn_of_eventConsumer ha, hs, List.tail_cons]
  case hostRequest =>
    intro rest r more hs hr
    have ha := agentOf_of_sched_cons hs
    rw [step_of_host_request ha hr, endTurn_of_host ha, hs, hr, List.tail_cons, List.tail_cons]
    cases r <;> rfl
  case hostIdle =>
    intro rest hs hr
    have ha := agentOf_of_sched_cons hs
    rw [step_of_host_idle ha hr, endTurn_of_host ha, hs, hr, List.tail_cons, List.tail_nil, ← hr]
  case sourceByte =>
    intro rest b more hs hb
    have ha := agentOf_of_sched_cons hs
    rw [step_of_byteSource_byte ha hb, endTurn_of_byteSource ha, hs, hb, List.tail_cons, List.tail_cons]
  case sourceIdle =>
    intro rest hs hb
    have ha := agentOf_of_sched_cons hs
    rw [step_of_byteSource_idle ha hb, endTurn_of_byteSource ha, hs, hb, List.tail_cons, List.tail_nil, ite_self, ← hb]

/-- Settles O56: every operation has a next state, so every step has one; with nobody scheduled the turn is the quiescent
engine's, which only passes. -/
theorem everyStepAnswersANextState : Obligations.EveryStepAnswersANextState := by
  unfold Obligations.EveryStepAnswersANextState
  refine ⟨fun i s => ⟨_, exec_eq_next_perform i s⟩, step_eq_next, fun s hs hq => ?_⟩
  rw [step_of_engine_quiescent (agentOf_of_sched_nil hs) hq, endTurn_of_sched_nil hs]

end Sys2Proof.Spec

/-! # Proofs for 10_state

The ring form of the buffer (O60), the quiescent buffers (O21), what an engine step consumes (O30), what every operation
does to the counters (O37), to the register bank (O39) and to the parameters (O40), and the invariant (O59). The last
four rest on `Effect`, which says once what an operation can do. -/

namespace Sys2Proof.Machine

/-! ### The ring form -/

theorem ringWf_iff (r : RingForm) : ringWf r = true ↔ r.level.toNat ≤ 64 := decide_eq_true_iff

@[simp] theorem length_ringBuf (r : RingForm) : (ringBuf r).length = r.level.toNat := by
  simp [ringBuf]

theorem getElem_ringBuf (r : RingForm) (i : Nat) (h : i < (ringBuf r).length) : (ringBuf r)[i] = ringByte r i := by
  simp [ringBuf]

theorem ringAppend_level {r : RingForm} (b : Byte) (h : r.level.toNat < 64) :
    (ringAppend r b).level.toNat = r.level.toNat + 1 := by
  simp only [ringAppend, BitVec.toNat_add]
  exact Nat.mod_eq_of_lt (by simp; omega)

theorem ringByte_ringAppend (r : RingForm) (b : Byte) (i : Nat) :
    ringByte (ringAppend r b) i =
      if (r.head.toNat + r.level.toNat) % 64 = (r.head.toNat + i) % 64 then b else ringByte r i := by
  have hlt : (r.head.toNat + i) % 64 < 64 := Nat.mod_lt _ (by decide)
  simp [ringByte, ringAppend, List.getD_eq_getElem?_getD, List.getElem_set, hlt]

theorem ringBuf_ringAppend {r : RingForm} (b : Byte) (h : r.level.toNat < 64) :
    ringBuf (ringAppend r b) = memAppend (ringBuf r) b := by
  have inPlace : ∀ i ∈ List.range r.level.toNat, ringByte (ringAppend r b) i = ringByte r i := fun i hi => by
    rw [List.mem_range] at hi
    rw [ringByte_ringAppend, if_neg (by omega)]
  have atEnd : ringByte (ringAppend r b) r.level.toNat = b := by rw [ringByte_ringAppend, if_pos rfl]
  rw [ringBuf, ringAppend_level b h, List.range_succ, List.map_append, List.map_singleton, atEnd,
    List.map_congr_left inPlace]
  rfl

theorem ringConsume_level {r : RingForm} (n : Nat) :
    (ringConsume r n).level.toNat = r.level.toNat - n := by
  have := r.level.isLt
  simp only [ringConsume, BitVec.toNat_ofNat]
  exact Nat.mod_eq_of_lt (by omega)

theorem ringByte_ringConsume (r : RingForm) (n i : Nat) : ringByte (ringConsume r n) i = ringByte r (n + i) := by
  have : ((r.head.toNat + n) % 64 % 2 ^ 6 + i) % 64 = (r.head.toNat + (n + i)) % 64 := by omega
  simp only [ringByte, ringConsume, BitVec.toNat_ofNat, this]

theorem ringBuf_ringConsume (r : RingForm) (n : Nat) : ringBuf (ringConsume r n) = memConsume (ringBuf r) n := by
  refine List.ext_getElem (by simp [memConsume, ringConsume_level]) fun i _ _ => ?_
  simp only [memConsume, List.getElem_drop, getElem_ringBuf, ringByte_ringConsume]

/-! ### Quiescent buffers -/

theorem sbusOn_iff (s : State) : sbusOn s = true ↔ Spec.sbusEnabled s := Bool.and_eq_true_iff

@[simp] theorem byteAt_cons_zero (b : Byte) (rest : List Byte) : byteAt (b :: rest) 0 = b := rfl

@[simp] theorem byteAt_cons_one (b c : Byte) (rest : List Byte) : byteAt (b :: c :: rest) 1 = c := rfl

/-- A CRSF candidate with a legal length and not all of its bytes (42_synchronizer R140). -/
def PendingCrsf (buf : List Byte) : Prop :=
  ∃ L xs, buf = 0xC8#8 :: L :: xs ∧ 2 ≤ L.toNat ∧ L.toNat ≤ 62 ∧ xs.length < L.toNat

/-- An S.Bus candidate with fewer than 25 bytes (42_synchronizer R140). -/
def PendingSbus (buf : List Byte) : Prop := ∃ xs, buf = 0x0F#8 :: xs ∧ buf.length < 25

theorem eq_nil_or_pending_of_isWaiting {on : Bool} {buf : List Byte} (h : isWaiting (classify on buf) = true) :
    buf = [] ∨ buf = [0xC8#8] ∨ PendingCrsf buf ∨ (on = true ∧ PendingSbus buf) := by
  rcases classify_cases on buf with ⟨hlen, _⟩ | ⟨h0, hlen, _⟩ | ⟨_, _, _, hc⟩ | ⟨h0, hlen, hmin, hmax, hshort, _⟩ |
    ⟨_, _, _, _, ⟨_, hc⟩ | ⟨_, hc⟩⟩ | ⟨h0, hon, hpos, hshort, _⟩ | ⟨_, _, _, ⟨_, hc⟩ | ⟨_, hc⟩⟩ | ⟨_, _, _, hc⟩
  case inl => exact .inl (List.length_eq_zero_iff.mp hlen)
  case inr.inl =>
    obtain ⟨b, rfl⟩ := List.length_eq_one_iff.mp hlen
    exact .inr (.inl (congrArg ([·]) h0))
  case inr.inr.inr.inl =>
    match buf, hlen with
    | b :: L :: xs, _ =>
      obtain rfl : b = 0xC8#8 := h0
      exact .inr (.inr (.inl ⟨L, xs, rfl, hmin, hmax, by simpa using hshort⟩))
  case inr.inr.inr.inr.inr.inl =>
    match buf, hpos with
    | b :: xs, _ =>
      obtain rfl : b = 0x0F#8 := h0
      exact .inr (.inr (.inr ⟨hon, xs, rfl, hshort⟩))
  all_goals
    rw [hc] at h
    nomatch h

theorem classify_of_pendingCrsf (on : Bool) {buf : List Byte} (h : PendingCrsf buf) : classify on buf = .waitBody := by
  obtain ⟨L, xs, rfl, hmin, hmax, hshort⟩ := h
  simp [classify, Config.crsfSync, Config.lenMin, Config.lenMax, Nat.lt_of_succ_le hmin, hmax, hshort]

theorem classify_of_pendingSbus {buf : List Byte} (h : PendingSbus buf) : classify true buf = .waitBody := by
  obtain ⟨xs, rfl, hshort⟩ := h
  rw [List.length_cons] at hshort
  simp [classify, Config.crsfSync, Config.sbusSync, Config.sbusFrameLen, hshort]

theorem isWaiting_classify_iff (on : Bool) (buf : List Byte) :
    isWaiting (classify on buf) = true ↔
      buf = [] ∨ buf = [0xC8#8] ∨ PendingCrsf buf ∨ (on = true ∧ PendingSbus buf) := by
  refine ⟨eq_nil_or_pending_of_isWaiting, ?_⟩
  rintro (rfl | rfl | h | ⟨rfl, h⟩)
  · rfl
  · rfl
  · rw [classify_of_pendingCrsf on h]; rfl
  · rw [classify_of_pendingSbus h]; rfl

/-! ### The engine's turn -/

section
variable {s : State}

theorem engineTurn_of_selected {i : Instr} (hd : decodeStep (classOf s) = .ok i) : engineTurn s = perform i s := by
  rw [engineTurn, hd]

theorem engineTurn_of_notSync (hc : classOf s = .notSync) : engineTurn s = consumeBytes 1 s := by
  rw [engineTurn_of_selected (congrArg decodeStep hc), perform_drop,
    whenSelected_of_selected hc (not_held_of_notSync hc)]

variable (hh : held s = false)
include hh

theorem engineTurn_of_badLen (hc : classOf s = .badLen) :
    engineTurn s = rejectCandidate .crsf .malformedLength s := by
  rw [engineTurn_of_selected (congrArg decodeStep hc), perform_lenReject, whenSelected_of_selected hc hh]

theorem engineTurn_of_crcBad (hc : classOf s = .crcBad) : engineTurn s = rejectCandidate .crsf .crcMismatch s := by
  rw [engineTurn_of_selected (congrArg decodeStep hc), perform_crcReject, whenSelected_of_selected hc hh]

theorem engineTurn_of_crcOk (hc : classOf s = .crcOk) : engineTurn s = acceptFrame s := by
  rw [engineTurn_of_selected (congrArg decodeStep hc), perform_emit, whenSelected_of_selected hc hh]

theorem engineTurn_of_sbusOk (hc : classOf s = .sbusOk) : engineTurn s = acceptSbus s := by
  rw [engineTurn_of_selected (congrArg decodeStep hc), perform_sbusAccept, whenSelected_of_selected hc hh]

theorem engineTurn_of_sbusBad (hc : classOf s = .sbusBad) :
    engineTurn s = rejectCandidate .sbus .malformedLength s := by
  rw [engineTurn_of_selected (congrArg decodeStep hc), perform_sbusReject, whenSelected_of_selected hc hh]

end

theorem complete_of_sbusOk {on : Bool} {buf : List Byte} (h : classify on buf = .sbusOk) :
    on = true ∧ 25 ≤ buf.length := by
  rcases classify_cases on buf with ⟨_, hc⟩ | ⟨_, _, hc⟩ | ⟨_, _, _, hc⟩ | ⟨_, _, _, _, _, hc⟩ |
    ⟨_, _, _, _, ⟨_, hc⟩ | ⟨_, hc⟩⟩ | ⟨_, _, _, _, hc⟩ | ⟨_, hon, hlen, _⟩ | ⟨_, _, _, hc⟩
  case inr.inr.inr.inr.inr.inr.inl => exact ⟨hon, hlen⟩
  all_goals nomatch hc.symm.trans h

theorem acceptFrame_buf (s : State) : (acceptFrame s).buf = s.buf.drop (candidateLength s + 2) := by
  simp [acceptFrame]

theorem acceptSbus_buf (s : State) : (acceptSbus s).buf = s.buf.drop 25 := by
  simp [acceptSbus, Config.sbusFrameLen]

/-- The bytes that the engine step of the state's class consumes (10_state R30, 42_synchronizer R144 to R149). -/
def stepLength (s : State) : Nat :=
  if classOf s = .crcOk then candidateLength s + 2 else if classOf s = .sbusOk then 25 else 1

theorem stepLength_bounds {s : State} (hq : quiescent s = false) : 1 ≤ stepLength s ∧ stepLength s ≤ s.buf.length := by
  unfold stepLength
  split
  next hc =>
    obtain ⟨-, -, -, hlen, -⟩ := complete_of_crcOk hc
    exact ⟨Nat.le_add_left 1 _, hlen⟩
  next =>
    split
    next hc => exact ⟨by decide, (complete_of_sbusOk hc).2⟩
    next => exact ⟨Nat.le_refl 1, length_pos_of_not_isWaiting hq⟩

/-- In a state neither quiescent nor held the engine's turn consumes the bytes of its step and counts them. -/
theorem engineTurn_consumes {s : State} (hq : quiescent s = false) (hh : held s = false) :
    (engineTurn s).buf = s.buf.drop (stepLength s) ∧
      (engineTurn s).bytesConsumed = satAdd s.bytesConsumed (stepLength s) := by
  cases hc : classOf s
  case waitSync | waitLen | waitBody => simp [quiescent, hc, isWaiting] at hq
  case notSync => simp [engineTurn_of_notSync hc, stepLength, hc]
  case badLen => simp [engineTurn_of_badLen hh hc, stepLength, hc]
  case crcBad => simp [engineTurn_of_crcBad hh hc, stepLength, hc]
  case sbusBad => simp [engineTurn_of_sbusBad hh hc, stepLength, hc]
  case crcOk => simp [engineTurn_of_crcOk hh hc, stepLength, hc, acceptFrame]
  case sbusOk => simp [engineTurn_of_sbusOk hh hc, stepLength, hc, acceptSbus, Config.sbusFrameLen]

/-! ### What a commit does to each group -/

theorem seqOf_bumpSeq (g h : ResultGroup) (q : SeqCounters) :
    seqOf h (bumpSeq g q) = if h = g then seqOf h q + 1#32 else seqOf h q := by
  rcases g with _ | k <;> rcases h with _ | j
  · rfl
  · cases j <;> rfl
  · cases k <;> rfl
  · cases k <;> cases j <;> rfl

/-- A commit sets the bit of its own kind and no other (10_state R38). -/
theorem validMask_getLsbD (g : ResultGroup) (k : Kind) :
    (validMask g).getLsbD (kindBit k) = decide (g = .telemetry k) := by
  rcases g with _ | j
  · cases k <;> rfl
  · cases j <;> cases k <;> rfl

/-- The group's counter, its registers and its `REC_VALID` bit are the same in both banks. -/
def Untouched (g : ResultGroup) (r r' : Results) : Prop :=
  seqOf g r'.seq = seqOf g r.seq ∧ Spec.sameRecord g r r' ∧
    ∀ k, g = .telemetry k → r'.recValid.getLsbD (kindBit k) = r.recValid.getLsbD (kindBit k)

/-- The group's counter gained 1, and its `REC_VALID` bit is set (43_decoders R180). -/
def Committed (g : ResultGroup) (r r' : Results) : Prop :=
  seqOf g r'.seq = seqOf g r.seq + 1#32 ∧ ∀ k, g = .telemetry k → r'.recValid.getLsbD (kindBit k) = true

theorem sameRecord_refl (g : ResultGroup) (r : Results) : Spec.sameRecord g r r := by
  rcases g with _ | k
  · rfl
  · cases k <;> rfl

theorem sameRecord_trans {g : ResultGroup} {r r' r'' : Results} (h : Spec.sameRecord g r r')
    (h' : Spec.sameRecord g r' r'') : Spec.sameRecord g r r'' := by
  rcases g with _ | k
  · exact h'.trans h
  · cases k <;> exact h'.trans h

section
variable {g : ResultGroup} {r r' r'' : Results}

theorem Untouched.refl (g : ResultGroup) (r : Results) : Untouched g r r :=
  ⟨rfl, sameRecord_refl g r, fun _ _ => rfl⟩

theorem Untouched.trans (h : Untouched g r r') (h' : Untouched g r' r'') : Untouched g r r'' := by
  obtain ⟨hseq, hrec, hbit⟩ := h
  obtain ⟨hseq', hrec', hbit'⟩ := h'
  exact ⟨hseq'.trans hseq, sameRecord_trans hrec hrec', fun k hk => (hbit' k hk).trans (hbit k hk)⟩

theorem Untouched.trans_committed (h : Untouched g r r') (h' : Committed g r' r'') : Committed g r r'' := by
  obtain ⟨hseq, -, -⟩ := h
  obtain ⟨hseq', hbit'⟩ := h'
  exact ⟨by rw [hseq', hseq], hbit'⟩

theorem Committed.trans_untouched (h : Committed g r r') (h' : Untouched g r' r'') : Committed g r r'' := by
  obtain ⟨hseq, hbit⟩ := h
  obtain ⟨hseq', -, hbit'⟩ := h'
  exact ⟨hseq'.trans hseq, fun k hk => (hbit' k hk).trans (hbit k hk)⟩

end

/-- Every group is untouched, but for some of `gs`, each committed once. -/
def CommitsAmong (gs : List ResultGroup) (r r' : Results) : Prop :=
  ∀ g, Untouched g r r' ∨ (g ∈ gs ∧ Committed g r r')

theorem CommitsAmong.refl (r : Results) : CommitsAmong [] r r := fun g => .inl (.refl g r)

/-- One more commit, of a group not committed so far. -/
theorem CommitsAmong.trans_commit {gs : List ResultGroup} {g : ResultGroup} {r r' r'' : Results}
    (h : CommitsAmong gs r r') (h' : CommitsAmong [g] r' r'') (hg : g ∉ gs) : CommitsAmong (g :: gs) r r'' := by
  intro j
  rcases h j with hu | ⟨hm, hc⟩ <;> rcases h' j with hu' | ⟨hm', hc'⟩
  · exact .inl (hu.trans hu')
  · exact .inr ⟨List.mem_cons.mpr (.inl (List.mem_singleton.mp hm')), hu.trans_committed hc'⟩
  · exact .inr ⟨List.mem_cons_of_mem g hm, hc.trans_untouched hu'⟩
  · exact absurd (List.mem_singleton.mp hm' ▸ hm) hg

theorem sameRecord_commit {g : ResultGroup} (h : ResultGroup) {r r' : Results} (hs : Spec.sameRecord h r r') :
    Spec.sameRecord h r (commit g r') := by
  rcases h with _ | k
  · exact hs
  · cases k <;> exact hs

/-- The commit of a group whose registers alone were written. -/
theorem commitsAmong_commit {g : ResultGroup} {r r' : Results} (hseq : r'.seq = r.seq)
    (hvalid : r'.recValid = r.recValid) (hsame : ∀ h, h ≠ g → Spec.sameRecord h r r') :
    CommitsAmong [g] r (commit g r') := by
  intro h
  by_cases hg : h = g
  · subst hg
    refine .inr ⟨List.mem_singleton_self h, ?_, fun k hk => ?_⟩
    · simp [commit, seqOf_bumpSeq, hseq]
    · simp [commit, validMask_getLsbD, hk]
  · refine .inl ⟨?_, sameRecord_commit h (hsame h hg), fun k hk => ?_⟩
    · simp [commit, seqOf_bumpSeq, hg, hseq]
    · simp [commit, validMask_getLsbD, hvalid, ← hk, Ne.symm hg]

/-! ### The record writes -/

/-- The writes of one group, each with its commit (43_decoders R172 to R180). Without S.Bus, the mAh packing and the
altitude offset bound what a decoder writes (30_encoding R91, 10_state R36). -/
inductive RecordWrite (sbus : Bool) : ResultGroup → (Results → Results) → Prop
  | channels (v : Vector Raw 16) : RecordWrite sbus .channels (commitChannels v)
  | linkStat (x : LinkStat) : RecordWrite sbus (.telemetry .linkStat) (commitLinkStat x)
  | attitude (x : Attitude) : RecordWrite sbus (.telemetry .attitude) (commitAttitude x)
  | flightMode (str : List Byte) : RecordWrite sbus (.telemetry .flightMode) (commitFlightMode str)
  | battery (x : Battery) (hmah : sbus = false → x.mah.getLsbD 15 = false) :
      RecordWrite sbus (.telemetry .battery) (commitBattery x)
  | gps (x : Gps) (halt : sbus = false → -33768 ≤ x.alt.toInt ∧ x.alt.toInt ≤ 31767) :
      RecordWrite sbus (.telemetry .gps) (commitGps x)
  | vario (x : Vario) : RecordWrite sbus (.telemetry .vario) (commitVario x)

theorem RecordWrite.commitsAmong {sbus : Bool} {g : ResultGroup} {w : Results → Results} (h : RecordWrite sbus g w)
    (r : Results) : CommitsAmong [g] r (w r) := by
  -- Each write replaces the registers of its own group, which `hne` leaves out, and keeps those of the others.
  cases h <;>
  · refine commitsAmong_commit rfl rfl fun h hne => ?_
    rcases h with _ | k
    · first | rfl | exact absurd rfl hne
    · cases k <;> first | rfl | exact absurd rfl hne

/-- The bounds of the records' own values in `StateInv`. -/
structure ValuesInv (sbus : Bool) (r : Results) : Prop where
  fmLen : r.flightMode.len.toNat ≤ 60
  fmTail : ∀ i, r.flightMode.len.toNat ≤ i → r.flightMode.str.toList.getD i 0 = 0
  mahBit : sbus = false → r.battery.mah.getLsbD 15 = false
  altRange : sbus = false → -33768 ≤ r.gps.alt.toInt ∧ r.gps.alt.toInt ≤ 31767

theorem padTo60_getD_of_length_le {str : List Byte} {i : Nat} (h : str.length ≤ i) :
    (padTo60 str).toList.getD i 0 = 0 := by
  by_cases hi : i < 60
  · simp [padTo60, List.getD_eq_getElem?_getD, hi, List.getElem?_eq_none h]
  · simp [padTo60, List.getD_eq_getElem?_getD, hi]

theorem toNat_fmLen (n : Nat) : (BitVec.ofNat 6 (min n 60)).toNat = min n 60 := by
  rw [BitVec.toNat_ofNat]; omega

theorem ValuesInv.commitFlightMode {sbus : Bool} {r : Results} (hr : ValuesInv sbus r) (str : List Byte) :
    ValuesInv sbus (commitFlightMode str r) where
  fmLen := by simp only [commitFlightMode_flightMode, toNat_fmLen]; omega
  fmTail i hi := by
    simp only [commitFlightMode_flightMode, toNat_fmLen] at hi ⊢
    by_cases h : str.length ≤ i
    · exact padTo60_getD_of_length_le h
    · exact List.getD_eq_default _ _ (by simp; omega)
  mahBit := hr.mahBit
  altRange := hr.altRange

theorem RecordWrite.keeps_valuesInv {sbus : Bool} {g : ResultGroup} {w : Results → Results} (h : RecordWrite sbus g w)
    {r : Results} (hr : ValuesInv sbus r) : ValuesInv sbus (w r) := by
  cases h with
  | channels _ | linkStat _ | attitude _ | vario _ => exact ⟨hr.fmLen, hr.fmTail, hr.mahBit, hr.altRange⟩
  | flightMode str => exact hr.commitFlightMode str
  | battery _ hmah => exact ⟨hr.fmLen, hr.fmTail, hmah, hr.altRange⟩
  | gps _ halt => exact ⟨hr.fmLen, hr.fmTail, hr.mahBit, halt⟩

/-! ### The writes of an accepted S.Bus frame -/

theorem commitIf_commitsAmong {α : Type} {g : ResultGroup} {f : α → Results → Results}
    (hf : ∀ a, RecordWrite true g (f a)) (x : Option α) (r : Results) : CommitsAmong [g] r (commitIf f x r) := by
  cases x with
  | none => exact fun h => .inl (.refl h r)
  | some a => exact (hf a).commitsAmong r

theorem commitIf_keeps_valuesInv {α : Type} {g : ResultGroup} {f : α → Results → Results}
    (hf : ∀ a, RecordWrite true g (f a)) (x : Option α) {r : Results} (hr : ValuesInv true r) :
    ValuesInv true (commitIf f x r) := by
  cases x with
  | none => exact hr
  | some a => exact (hf a).keeps_valuesInv hr

theorem recordWrite_battery_sbus (x : Battery) : RecordWrite true (.telemetry .battery) (commitBattery x) :=
  .battery x nofun

theorem recordWrite_gps_sbus (x : Gps) : RecordWrite true (.telemetry .gps) (commitGps x) := .gps x nofun

/-- The seven writes of SBUS_DECODE are of seven different groups, so each group is committed at most once (log 6). -/
theorem applySbusWrites_commitsAmong (w : SbusWrites) (r : Results) :
    ∃ gs, CommitsAmong gs r (applySbusWrites w r) :=
  ⟨_, ((((((commitIf_commitsAmong .channels w.channels r).trans_commit
    (commitIf_commitsAmong .linkStat w.linkStat _) (by decide)).trans_commit
    (commitIf_commitsAmong .attitude w.attitude _) (by decide)).trans_commit
    (commitIf_commitsAmong .flightMode w.flightMode _) (by decide)).trans_commit
    (commitIf_commitsAmong recordWrite_battery_sbus w.battery _) (by decide)).trans_commit
    (commitIf_commitsAmong recordWrite_gps_sbus w.gps _) (by decide)).trans_commit
    (commitIf_commitsAmong .vario w.vario _) (by decide)⟩

theorem applySbusWrites_keeps_valuesInv (w : SbusWrites) {r : Results} (hr : ValuesInv true r) :
    ValuesInv true (applySbusWrites w r) :=
  commitIf_keeps_valuesInv .vario w.vario <|
  commitIf_keeps_valuesInv recordWrite_gps_sbus w.gps <|
  commitIf_keeps_valuesInv recordWrite_battery_sbus w.battery <|
  commitIf_keeps_valuesInv .flightMode w.flightMode <|
  commitIf_keeps_valuesInv .attitude w.attitude <|
  commitIf_keeps_valuesInv .linkStat w.linkStat <|
  commitIf_keeps_valuesInv .channels w.channels hr

/-! ### What a decoder can do -/

/-- The shift by 7 leaves bit 15 between byte 8, which ends at bit 14, and byte 7, which starts at bit 16
(30_encoding R91). -/
theorem mahField_getLsbD_15 (p : List Byte) : (mahField p).getLsbD 15 = false := by
  simp [mahField]

/-- Subtracting 1000 from a sign-extended 16-bit number does not wrap around in 32 bits. -/
theorem altField_toInt (p : List Byte) : (altField p).toInt = (be16 p 15).toInt - 1000 := by
  have hlo := BitVec.le_toInt (be16 p 15)
  have hhi := BitVec.toInt_lt (x := be16 p 15)
  rw [altField, BitVec.toInt_sub, BitVec.toInt_signExtend_of_le (by decide)]
  exact Int.bmod_eq_of_le (by simp; omega) (by simp; omega)

theorem altField_bounds (p : List Byte) : -33768 ≤ (altField p).toInt ∧ (altField p).toInt ≤ 31767 := by
  have hlo := BitVec.le_toInt (be16 p 15)
  have hhi := BitVec.toInt_lt (x := be16 p 15)
  rw [altField_toInt]
  omega

/-- The write `w` of a decoder that takes at least `m` payload bytes writes one record when the payload has them
(43_decoders R171). -/
def DecoderWrites (m : Nat) (p : List Byte) (w : Results → Results) : Prop :=
  m ≤ p.length → ∃ g, ∀ sbus, RecordWrite sbus g w

theorem writeChannels_writes (p : List Byte) : DecoderWrites (minPayload 0x16#8) p (writeChannels p) := by
  intro (hp : 22 ≤ p.length)
  have hfull : ¬(p.take Config.chBytes).length < Config.chBytes := by
    rw [List.length_take, Config.chBytes]; omega
  have hw : writeChannels p = commitChannels (Vector.ofFn fun k => lane (p.take Config.chBytes) k.val) := by
    funext r
    rw [writeChannels, unpack, if_neg hfull]
  rw [hw]
  exact ⟨_, fun _ => .channels _⟩

theorem writeLinkStat_writes (p : List Byte) : DecoderWrites (minPayload 0x14#8) p (writeLinkStat p) :=
  fun _ => ⟨_, fun _ => .linkStat _⟩

theorem writeAttitude_writes (p : List Byte) : DecoderWrites (minPayload 0x1E#8) p (writeAttitude p) :=
  fun _ => ⟨_, fun _ => .attitude _⟩

theorem writeFlightMode_writes (p : List Byte) : DecoderWrites (minPayload 0x21#8) p (writeFlightMode p) :=
  fun _ => ⟨_, fun _ => .flightMode _⟩

theorem writeBattery_writes (p : List Byte) : DecoderWrites (minPayload 0x08#8) p (writeBattery p) :=
  fun _ => ⟨_, fun _ => .battery _ fun _ => mahField_getLsbD_15 p⟩

theorem writeGps_writes (p : List Byte) : DecoderWrites (minPayload 0x02#8) p (writeGps p) :=
  fun _ => ⟨_, fun _ => .gps _ fun _ => altField_bounds p⟩

theorem writeVario_writes (p : List Byte) : DecoderWrites (minPayload 0x07#8) p (writeVario p) :=
  fun _ => ⟨_, fun _ => .vario _⟩

/-- DECODE does nothing, or is a length-checked write of one record (43_decoders R170, R171, R179). -/
theorem decodeEffect_cases (t : Byte) (p : List Byte) (s : State) :
    decodeEffect t p s = s ∨ ∃ m w, DecoderWrites m p w ∧ decodeEffect t p s = lengthChecked m p w s := by
  unfold decodeEffect
  split
  · exact .inr ⟨_, _, writeChannels_writes p, rfl⟩
  split
  · exact .inr ⟨_, _, writeLinkStat_writes p, rfl⟩
  split
  · exact .inr ⟨_, _, writeAttitude_writes p, rfl⟩
  split
  · exact .inr ⟨_, _, writeFlightMode_writes p, rfl⟩
  split
  · exact .inr ⟨_, _, writeBattery_writes p, rfl⟩
  split
  · exact .inr ⟨_, _, writeGps_writes p, rfl⟩
  split
  · exact .inr ⟨_, _, writeVario_writes p, rfl⟩
  · exact .inl rfl

theorem lengthChecked_results_cases {m : Nat} {p : List Byte} {w : Results → Results} (hw : DecoderWrites m p w)
    (s : State) : (lengthChecked m p w s).results = s.results ∨
      ∃ g w', (∀ sbus, RecordWrite sbus g w') ∧ (lengthChecked m p w s).results = w' s.results := by
  rw [lengthChecked_results]
  split
  next => exact .inl rfl
  next hlen =>
    obtain ⟨g, hg⟩ := hw (Nat.le_of_not_lt hlen)
    exact .inr ⟨g, w, hg, rfl⟩

theorem decodeEffect_results_cases (t : Byte) (p : List Byte) (s : State) :
    (decodeEffect t p s).results = s.results ∨
      ∃ g w, (∀ sbus, RecordWrite sbus g w) ∧ (decodeEffect t p s).results = w s.results := by
  rcases decodeEffect_cases t p s with h | ⟨m, w, hw, h⟩ <;> rw [h]
  · exact .inl rfl
  · exact lengthChecked_results_cases hw s

theorem le_satInc (c : Word) : c.toNat ≤ (satInc c).toNat := le_satAdd c 1

theorem lengthChecked_payloadTooShort_le (m : Nat) (p : List Byte) (w : Results → Results) (s : State) :
    s.payloadTooShort.toNat ≤ (lengthChecked m p w s).payloadTooShort.toNat := by
  rw [lengthChecked_payloadTooShort]
  split
  · exact le_satInc _
  · exact Nat.le_refl _

theorem decodeEffect_payloadTooShort_le (t : Byte) (p : List Byte) (s : State) :
    s.payloadTooShort.toNat ≤ (decodeEffect t p s).payloadTooShort.toNat := by
  rcases decodeEffect_cases t p s with h | ⟨m, w, -, h⟩ <;> rw [h]
  exact lengthChecked_payloadTooShort_le m p w s

/-! ### What an operation can do -/

/-- Everything an operation can do to a state, by the shared operation that does it. -/
inductive Effect (s : State) : Instr → State → Prop
  /-- DEC_UNKNOWN, and an engine step that is not selected or is held (00_scope R16, 42_synchronizer R150). -/
  | idle (i : Instr) : Effect s i s
  | decoded {i : Instr} (hi : Spec.isHostOrPrimitive i = false) (m : Nat) (p : List Byte) {w : Results → Results}
      (hw : DecoderWrites m p w) : Effect s i (lengthChecked m p w s)
  | dropped (hc : classOf s = .notSync) : Effect s .drop (consumeBytes 1 s)
  | rejected {i : Instr} (hi : Spec.isHostOrPrimitive i = false) (hc : emits (classOf s) = true)
      (hh : held s = false) (d : Dialect) (r : Reason) : Effect s i (rejectCandidate d r s)
  | accepted (hc : classOf s = .crcOk) (hh : held s = false) : Effect s .emit (acceptFrame s)
  | acceptedSbus (hc : classOf s = .sbusOk) (hh : held s = false) : Effect s .sbusAccept (acceptSbus s)
  | answered {i : Instr} (hi : Spec.isHostOrPrimitive i = true) (r : Response) : Effect s i (answer r s)
  | pushed (b : Byte) : Effect s (.push b) (pushByte b s)
  | wrote (index : BitVec 7) (d : Word) : Effect s (.write index d) (writeWord index d s)
  | popped : Effect s .pop (popEvent s)
  | reset : Effect s .reset (resetBlock s)

/-- A step that its guard does not let through has no effect; else the guard's two conditions hold. -/
theorem effect_whenSelected {i : Instr} {c : StepClass} {s e : State}
    (h : classOf s = c → held s = false → Effect s i e) : Effect s i (whenSelected c s e) := by
  rcases whenSelected_cases c s e with ⟨hc, hh, he⟩ | ⟨-, he⟩ <;> rw [he]
  · exact h hc hh
  · exact .idle i

theorem effect_perform (i : Instr) (s : State) : Effect s i (perform i s) := by
  cases i with
  | decGps p => exact .decoded rfl _ p (writeGps_writes p)
  | decVario p => exact .decoded rfl _ p (writeVario_writes p)
  | decBattery p => exact .decoded rfl _ p (writeBattery_writes p)
  | decLinkstat p => exact .decoded rfl _ p (writeLinkStat_writes p)
  | decChannels p => exact .decoded rfl _ p (writeChannels_writes p)
  | decAttitude p => exact .decoded rfl _ p (writeAttitude_writes p)
  | decFlightmode p => exact .decoded rfl _ p (writeFlightMode_writes p)
  | decUnknown t p => exact .idle _
  | drop => exact effect_whenSelected fun hc _ => .dropped hc
  | lenReject => exact effect_whenSelected fun hc hh => .rejected rfl (congrArg emits hc) hh _ _
  | crcReject => exact effect_whenSelected fun hc hh => .rejected rfl (congrArg emits hc) hh _ _
  | emit => exact effect_whenSelected .accepted
  | sbusAccept => exact effect_whenSelected .acceptedSbus
  | sbusReject => exact effect_whenSelected fun hc hh => .rejected rfl (congrArg emits hc) hh _ _
  | crc8Step _ _ | crc8 _ | unpack _ | usMap _ | read _ => exact .answered rfl _
  | push b => exact .pushed b
  | write index d => exact .wrote index d
  | pop => exact .popped
  | reset => exact .reset

theorem effect_of_exec {i : Instr} {s t : State} (h : exec i s = .next t) : Effect s i t := by
  rw [exec_eq_next_perform] at h
  exact Host.Outcome.next.inj h ▸ effect_perform i s

section
variable {s t : State} {i : Instr}

theorem Effect.params_eq (h : Effect s i t) : t.params = s.params := by
  cases h with
  | idle | dropped | answered => rfl
  | decoded | rejected | pushed | wrote | popped | reset => simp
  | accepted => simp [acceptFrame]
  | acceptedSbus => simp [acceptSbus]

theorem Effect.environment_eq (h : Effect s i t) :
    t.sched = s.sched ∧ t.source = s.source ∧ t.requests = s.requests := by
  cases h with
  | idle | dropped | answered => exact ⟨rfl, rfl, rfl⟩
  | decoded | rejected | pushed | wrote | popped | reset => simp
  | accepted => simp [acceptFrame]
  | acceptedSbus => simp [acceptSbus]

theorem Effect.log_eq (h : Effect s i t) : ∃ new, new.length ≤ 1 ∧ t.log = s.log ++ new := by
  cases h with
  | answered _ r => exact ⟨[r], Nat.le_refl 1, rfl⟩
  | popped => exact ⟨_, Option.length_toList_le, popEvent_log s⟩
  | idle | decoded | dropped | rejected | pushed | wrote | reset => exact ⟨[], by simp⟩
  | accepted => exact ⟨[], by simp [acceptFrame]⟩
  | acceptedSbus => exact ⟨[], by simp [acceptSbus]⟩

theorem Effect.ctrl_cases (h : Effect s i t) : t.ctrl = s.ctrl ∨ i = .reset ∨ ∃ d, i = .write 0 d := by
  cases h with
  | wrote index d =>
    by_cases h0 : index = 0
    · exact .inr (.inr ⟨d, h0 ▸ rfl⟩)
    · exact .inl (by rw [writeWord, if_neg h0])
  | idle | dropped | answered => exact .inl rfl
  | decoded | rejected | pushed | popped => exact .inl (by simp)
  | accepted => exact .inl (by simp [acceptFrame])
  | acceptedSbus => exact .inl (by simp [acceptSbus])
  | reset => exact .inr (.inl rfl)

/-- Every counter of the second state is at least the first's. -/
structure CountersLe (s t : State) : Prop where
  framesValidated : s.framesValidated.toNat ≤ t.framesValidated.toNat
  framesRejected : s.framesRejected.toNat ≤ t.framesRejected.toNat
  bytesConsumed : s.bytesConsumed.toNat ≤ t.bytesConsumed.toNat
  payloadTooShort : s.payloadTooShort.toNat ≤ t.payloadTooShort.toNat

theorem acceptFrame_countersLe (s : State) : CountersLe s (acceptFrame s) where
  framesValidated := by simp [acceptFrame, le_satInc]
  framesRejected := by simp [acceptFrame]
  bytesConsumed := by simp [acceptFrame, le_satAdd]
  payloadTooShort := by
    have h := decodeEffect_payloadTooShort_le (candidateType s) (candidatePayload s)
      (emitEvent (crsfAccepted (candidateType s) (candidatePayload s)) (countValidated s))
    simpa [acceptFrame] using h

theorem Effect.countersLe (h : Effect s i t) (hr : i ≠ .reset) : CountersLe s t := by
  cases h with
  | decoded _ m p => constructor <;> simp [lengthChecked_payloadTooShort_le, -lengthChecked_payloadTooShort]
  | dropped | rejected => constructor <;> simp [le_satAdd, le_satInc]
  | accepted => exact acceptFrame_countersLe s
  | acceptedSbus => constructor <;> simp [acceptSbus, le_satAdd, le_satInc]
  | idle | answered | pushed | wrote | popped => constructor <;> simp
  | reset => exact absurd rfl hr

theorem Effect.counters_eq (h : Effect s i t) (hi : Spec.isHostOrPrimitive i = true) :
    t.framesValidated = s.framesValidated ∧ t.framesRejected = s.framesRejected ∧
      t.bytesConsumed = s.bytesConsumed ∧ t.payloadTooShort = s.payloadTooShort := by
  cases h with
  | idle | answered | pushed | wrote | popped => simp
  | decoded h | rejected h => exact absurd (h.symm.trans hi) (by decide)
  | dropped | accepted | acceptedSbus | reset => nomatch hi

theorem sbusImpl_of_sbusOk (hc : classOf s = .sbusOk) : s.params.sbusImpl = true :=
  ((sbusOn_iff s).mp (complete_of_sbusOk hc).1).1

theorem acceptFrame_results_cases (s : State) :
    (acceptFrame s).results = s.results ∨
      ∃ g w, (∀ sbus, RecordWrite sbus g w) ∧ (acceptFrame s).results = w s.results := by
  have h := decodeEffect_results_cases (candidateType s) (candidatePayload s)
    (emitEvent (crsfAccepted (candidateType s) (candidatePayload s)) (countValidated s))
  simpa [acceptFrame] using h

theorem acceptSbus_results (s : State) :
    (acceptSbus s).results = applySbusWrites (Config.sbusWrites (sbusFrame s) s.results) s.results := by
  simp [acceptSbus]

/-- All that an operation but RESET does to the register bank: nothing, one record, or, with S.Bus, the records
SBUS_DECODE gives. -/
theorem Effect.results_cases (h : Effect s i t) (hr : i ≠ .reset) :
    t.results = s.results ∨ (∃ g w, (∀ sbus, RecordWrite sbus g w) ∧ t.results = w s.results) ∨
      (s.params.sbusImpl = true ∧ ∃ w, t.results = applySbusWrites w s.results) := by
  cases h with
  | decoded _ m p hw => exact (lengthChecked_results_cases hw s).imp_right .inl
  | accepted => exact (acceptFrame_results_cases s).imp_right .inl
  | acceptedSbus hc => exact .inr (.inr ⟨sbusImpl_of_sbusOk hc, _, acceptSbus_results s⟩)
  | idle | dropped | rejected | answered | pushed | wrote | popped => exact .inl (by simp)
  | reset => exact absurd rfl hr

/-- An operation but RESET commits each group at most once and leaves the others untouched (10_state R38, R39). -/
theorem Effect.commitsAmong (h : Effect s i t) (hr : i ≠ .reset) : ∃ gs, CommitsAmong gs s.results t.results := by
  rcases h.results_cases hr with h | ⟨g, w, hw, h⟩ | ⟨-, w, h⟩ <;> rw [h]
  · exact ⟨[], .refl s.results⟩
  · exact ⟨[g], (hw true).commitsAmong s.results⟩
  · exact applySbusWrites_commitsAmong w s.results

theorem Effect.keeps_valuesInv (h : Effect s i t) (hr : i ≠ .reset) (hv : ValuesInv s.params.sbusImpl s.results) :
    ValuesInv s.params.sbusImpl t.results := by
  rcases h.results_cases hr with h | ⟨g, w, hw, h⟩ | ⟨hs, w, h⟩ <;> rw [h]
  · exact hv
  · exact (hw _).keeps_valuesInv hv
  · rw [hs] at hv ⊢
    exact applySbusWrites_keeps_valuesInv w hv

end

/-! ### The invariant -/

/-- A kind with no record has its registers and its counter as reset leaves them (10_state R38, 70_reset R250). -/
def NoRecordAtReset (r : Results) : Prop :=
  ∀ k, r.recValid.getLsbD (kindBit k) = false → recordAtReset k r ∧ seqOf (.telemetry k) r.seq = 0

theorem recordAtReset_of_sameRecord {k : Kind} {r r' : Results} (hs : Spec.sameRecord (.telemetry k) r r')
    (h : recordAtReset k r) : recordAtReset k r' := by
  cases k <;> exact hs.trans h

/-- A commit sets the kind's bit, so a kind whose bit is clear was not touched. -/
theorem CommitsAmong.keeps_noRecordAtReset {gs : List ResultGroup} {r r' : Results} (h : CommitsAmong gs r r')
    (hr : NoRecordAtReset r) : NoRecordAtReset r' := by
  intro k hk
  rcases h (.telemetry k) with ⟨hseq, hrec, hbit⟩ | ⟨-, -, hbit⟩
  · obtain ⟨hreg, hcount⟩ := hr k ((hbit k rfl).symm.trans hk)
    exact ⟨recordAtReset_of_sameRecord hrec hreg, hseq.trans hcount⟩
  · exact absurd ((hbit k rfl).symm.trans hk) (by decide)

theorem Effect.memoryWf_buf {s t : State} {i : Instr} (h : Effect s i t) (hs : memoryWf s.buf = true) :
    memoryWf t.buf = true := by
  cases h with
  | idle | answered => exact hs
  | decoded | wrote | popped => simpa using hs
  | dropped => exact consumeBytes_memoryWf 1 hs
  | rejected => rw [rejectCandidate_buf]; exact memConsume_memoryWf _ hs
  | accepted => rw [acceptFrame_buf]; exact memConsume_memoryWf _ hs
  | acceptedSbus => rw [acceptSbus_buf]; exact memConsume_memoryWf _ hs
  | pushed b => exact pushByte_memoryWf b hs
  | reset => exact resetBlock_memoryWf s

/-- An emitting step that is not held has room for its event (42_synchronizer R150). -/
theorem room_of_not_held {s : State} (hc : emits (classOf s) = true) (hh : held s = false) (he : s.ctrl.evEn = true) :
    s.evq.length < s.params.evDepth := by
  simpa [held, evqBlocks, hc, he] using hh

theorem length_emitEvent_le {s : State} (u : State) (e : Event) (hc : emits (classOf s) = true) (hh : held s = false)
    (hs : s.evq.length ≤ s.params.evDepth) (hq : u.evq = s.evq) (hctrl : u.ctrl = s.ctrl) :
    (emitEvent e u).evq.length ≤ s.params.evDepth := by
  rw [emitEvent_evq, hq, hctrl]
  split
  next he =>
    rw [List.length_append, List.length_singleton]
    exact room_of_not_held hc hh he
  next => exact hs

theorem Effect.evq_length_le {s t : State} {i : Instr} (h : Effect s i t) (hs : s.evq.length ≤ s.params.evDepth) :
    t.evq.length ≤ s.params.evDepth := by
  cases h with
  | idle | dropped | answered => exact hs
  | decoded | pushed | wrote => simpa using hs
  | rejected _ hc hh d r => exact length_emitEvent_le (countRejected s) (.rejected d r) hc hh hs rfl rfl
  | accepted hc hh =>
    rw [acceptFrame, consumeBytes_evq, decodeEffect_evq]
    exact length_emitEvent_le (countValidated s) _ (congrArg emits hc) hh hs rfl rfl
  | acceptedSbus hc hh => exact length_emitEvent_le (countValidated s) _ (congrArg emits hc) hh hs rfl rfl
  | popped => simpa using Nat.le_add_right_of_le hs
  | reset => exact Nat.zero_le _

/-- Without S.Bus no operation sets `SBUS_EN` (10_state R29). -/
theorem Effect.sbusEn_eq_false {s t : State} {i : Instr} (h : Effect s i t) (hp : s.params.sbusImpl = false)
    (hs : s.ctrl.sbusEn = false) : t.ctrl.sbusEn = false := by
  cases h with
  | wrote index d =>
    unfold writeWord
    split
    · simp [hp, hs]
    · exact hs
  | idle | dropped | answered => exact hs
  | decoded | rejected | pushed | popped => simpa using hs
  | accepted => simpa [acceptFrame] using hs
  | acceptedSbus => simpa [acceptSbus] using hs
  | reset => rfl

theorem resetResults_valuesInv (sbus : Bool) : ValuesInv sbus resetResults where
  fmLen := by decide
  fmTail i _ := by
    change (Vector.replicate 60 (0 : Byte)).toList.getD i 0 = 0
    rw [Vector.toList_replicate, List.getD_eq_getElem?_getD, List.getElem?_getD_replicate_default_eq]
  mahBit _ := rfl
  altRange _ := by decide

theorem resetResults_noRecordAtReset : NoRecordAtReset resetResults := fun k _ => by cases k <;> exact ⟨rfl, rfl⟩

/-- `StateInv`, with its clauses about the register bank as the two predicates on the bank. -/
theorem stateInv_iff (s : State) :
    StateInv s ↔ s.params.wf = true ∧ memoryWf s.buf = true ∧ s.evq.length ≤ s.params.evDepth ∧
      (s.params.sbusImpl = false → s.ctrl.sbusEn = false) ∧ ValuesInv s.params.sbusImpl s.results ∧
      NoRecordAtReset s.results :=
  ⟨fun h => ⟨h.params, h.buf, h.evq, h.sbusEn, ⟨h.fmLen, h.fmTail, h.mahBit, h.altRange⟩, h.noRecord⟩,
    fun ⟨hp, hb, he, hs, hv, hn⟩ => ⟨hp, hb, he, hs, hv.fmLen, hv.fmTail, hn, hv.mahBit, hv.altRange⟩⟩

theorem Effect.keeps_stateInv {s t : State} {i : Instr} (h : Effect s i t) (hr : i ≠ .reset) (hs : StateInv s) :
    StateInv t := by
  rw [stateInv_iff] at hs ⊢
  obtain ⟨hparams, hbuf, hevq, hsbus, hvalues, hrecords⟩ := hs
  obtain ⟨gs, hcommits⟩ := h.commitsAmong hr
  rw [h.params_eq]
  exact ⟨hparams, h.memoryWf_buf hbuf, h.evq_length_le hevq, fun hp => h.sbusEn_eq_false hp (hsbus hp),
    h.keeps_valuesInv hr hvalues, hcommits.keeps_noRecordAtReset hrecords⟩

theorem resetBlock_stateInv {s : State} (hp : s.params.wf = true) : StateInv (resetBlock s) :=
  (stateInv_iff _).mpr ⟨hp, resetBlock_memoryWf s, Nat.zero_le _, fun _ => rfl, resetResults_valuesInv _,
    resetResults_noRecordAtReset⟩

theorem perform_keeps_stateInv (i : Instr) {s : State} (hs : StateInv s) : StateInv (perform i s) := by
  by_cases hr : i = .reset
  · subst hr
    exact resetBlock_stateInv hs.params
  · exact (effect_perform i s).keeps_stateInv hr hs

theorem endTurn_keeps_stateInv {s : State} (hs : StateInv s) : StateInv (endTurn s) := by
  rw [stateInv_iff] at hs ⊢
  simpa only [endTurn_params, endTurn_buf, endTurn_evq, endTurn_ctrl, endTurn_results] using hs

end Sys2Proof.Machine

namespace Sys2Proof.Spec

open Sys2Proof.Machine

/-- Settles O60: below 64 bytes the place that the append writes is no place of the sequence, and HEAD moves modulo the
size of the ring. -/
theorem ringFormRefinesTheBuffer : Obligations.RingFormRefinesTheBuffer := by
  unfold Obligations.RingFormRefinesTheBuffer
  intro r hr
  rw [ringWf_iff] at hr
  refine ⟨length_ringBuf r, fun b hb => ⟨?_, ringBuf_ringAppend b hb⟩, fun n _ => ⟨?_, ringBuf_ringConsume r n⟩⟩
  · rw [ringWf_iff, ringAppend_level b hb]; omega
  · rw [ringWf_iff, ringConsume_level]; omega

/-- Settles O21: a waiting class is one of the four conditions under which R140 waits, and a buffer that waits has room
for a byte. -/
theorem quiescentBuffersHaveThreeShapes : Obligations.QuiescentBuffersHaveThreeShapes := by
  unfold Obligations.QuiescentBuffersHaveThreeShapes
  intro s
  refine ⟨?shapes, fun hq => ?room⟩
  case shapes => rw [← sbusOn_iff]; exact isWaiting_classify_iff (sbusOn s) s.buf
  case room =>
    have hlen : s.buf.length ≤ 63 := length_le_of_isWaiting hq
    refine ⟨hlen, fun b t ht => ?_⟩
    obtain rfl : pushByte b s = t := Host.Outcome.next.inj ht
    exact of_decide_eq_true (pushByte_memoryWf b (decide_eq_true (Nat.le_succ_of_le hlen)))

/-- Settles O30, class by class. -/
theorem everyEngineStepConsumesAndCounts : Obligations.EveryEngineStepConsumesAndCounts := by
  unfold Obligations.EveryEngineStepConsumesAndCounts
  intro s hq hh
  obtain ⟨hbuf, hcount⟩ := engineTurn_consumes hq hh
  obtain ⟨hpos, hlen⟩ := stepLength_bounds hq
  exact ⟨stepLength s, rfl, hpos, hlen, hbuf, by rw [hcount, satAdd_toNat]; rfl⟩

/-- Settles O59: a step ends a turn, which leaves the block alone, and then performs at most one operation, each of
whose effects keeps the invariant. -/
theorem everyStepKeepsTheInvariant : Obligations.EveryStepKeepsTheInvariant := by
  unfold Obligations.EveryStepKeepsTheInvariant
  intro s t hs hstep
  have hend := endTurn_keeps_stateInv hs
  rcases step_cases s with h | ⟨_, i, _, _, h⟩
  · exact Host.Outcome.next.inj (h.symm.trans hstep) ▸ hend
  · exact Host.Outcome.next.inj (h.symm.trans hstep) ▸ perform_keeps_stateInv i hend

/-- Settles O37, by what each effect does to the counters. -/
theorem onlyResetLowersACounter : Obligations.OnlyResetLowersACounter := by
  unfold Obligations.OnlyResetLowersACounter
  intro i s t h
  have he := effect_of_exec h
  refine ⟨fun hr => ?_, he.counters_eq⟩
  obtain ⟨hvalidated, hrejected, hconsumed, hshort⟩ := he.countersLe hr
  exact ⟨hvalidated, hrejected, hconsumed, hshort⟩

/-- Settles O39: an operation commits each group at most once and leaves the other groups untouched. -/
theorem sequenceCountersMarkEveryCommit : Obligations.SequenceCountersMarkEveryCommit := by
  unfold Obligations.SequenceCountersMarkEveryCommit
  intro i s t g hr h
  obtain ⟨gs, hcommits⟩ := (effect_of_exec h).commitsAmong hr
  exact (hcommits g).imp_right And.right

/-- Settles O40, by what each effect leaves unchanged. -/
theorem parametersNeverChange : Obligations.ParametersNeverChange := by
  unfold Obligations.ParametersNeverChange
  intro i s t h
  have he := effect_of_exec h
  obtain ⟨hsched, hsource, hrequests⟩ := he.environment_eq
  exact ⟨he.params_eq, hsched, hsource, hrequests, he.log_eq, fun hctrl => he.ctrl_cases.resolve_left hctrl⟩

end Sys2Proof.Spec

/-! # Proofs for 20_memory

The order of the event FIFO (O41), and the reserved and read-only words of the register window (O42). -/

namespace Sys2Proof.Machine

/-! ### The event FIFO -/

/-- `emit(e)` appends its event or nothing (20_memory R58). -/
theorem emitEvent_appends (e : Event) (s : State) :
    ∃ new, new.length ≤ 1 ∧ (emitEvent e s).evq = s.evq ++ new := by
  rw [emitEvent_evq]
  split
  · exact ⟨[e], Nat.le_refl 1, rfl⟩
  · exact ⟨[], Nat.zero_le 1, s.evq.append_nil.symm⟩

/-- Only `emit` appends to `evq`, and every operation emits at most once (20_memory R64). -/
theorem Effect.evq_appends {s t : State} {i : Instr} (h : Effect s i t) (hp : i ≠ .pop) (hr : i ≠ .reset) :
    ∃ new, new.length ≤ 1 ∧ t.evq = s.evq ++ new := by
  cases h with
  | idle | decoded | dropped | answered | pushed | wrote => exact ⟨[], by simp⟩
  | rejected _ _ _ d r => exact emitEvent_appends (.rejected d r) (countRejected s)
  | accepted =>
    rw [acceptFrame, consumeBytes_evq, decodeEffect_evq]
    exact emitEvent_appends _ (countValidated s)
  | acceptedSbus => exact emitEvent_appends _ (countValidated s)
  | popped => exact absurd rfl hp
  | reset => exact absurd rfl hr

/-! ### The register window -/

/-- READ looks for a telemetry field at word 7, at word 15 and from word 32 on, where no control, counter or channel
register is (20_memory R68). -/
theorem readWord_eq_fieldWord (s : State) {index : BitVec 7}
    (h : index.toNat = 7 ∨ index.toNat = 15 ∨ 32 ≤ index.toNat) :
    readWord s index = fieldWord s.results index.toNat := by
  simp (disch := omega) only [readWord, if_neg]

/-- The indices that hold no telemetry field (20_memory R68, R69). -/
theorem fieldWord_eq_zero (r : Results) {i : Nat} (h : i < 64 ∨ i = 71 ∨ i = 98 ∨ i = 99 ∨ 101 ≤ i) :
    fieldWord r i = 0 := by
  simp (disch := omega) only [fieldWord, if_neg]

/-- `CTRL` is the only word that can be written (20_memory R69). -/
theorem writeWord_of_ne_zero {index : BitVec 7} (d : Word) (s : State) (h : index ≠ 0) : writeWord index d s = s :=
  if_neg h

end Sys2Proof.Machine

namespace Sys2Proof.Spec

open Sys2Proof.Machine

/-- Settles O41: every effect but those of POP and RESET appends what `emit` appends, or nothing. -/
theorem eventsEnterAndLeaveInOrder : Obligations.EventsEnterAndLeaveInOrder := by
  unfold Obligations.EventsEnterAndLeaveInOrder
  intro i s t hr h
  refine ⟨fun hp => (effect_of_exec h).evq_appends hp hr, ?_⟩
  rintro rfl
  obtain rfl : popEvent s = t := Host.Outcome.next.inj h
  exact popEvent_evq s

/-- Settles O42: a reserved index is that of no control, counter or channel register, and holds no telemetry field
either. -/
theorem reservedWordsReadZeroAndIgnoreWrites : Obligations.ReservedWordsReadZeroAndIgnoreWrites := by
  unfold Obligations.ReservedWordsReadZeroAndIgnoreWrites
  refine fun s => ⟨fun i hi hreserved => ⟨_, rfl, ?reads⟩, fun i d hne => ?writes⟩
  case reads =>
    have hindex : (BitVec.ofNat 7 i).toNat = i := by rw [BitVec.toNat_ofNat]; omega
    exact (readWord_eq_fieldWord s (by omega)).trans (fieldWord_eq_zero s.results (by omega))
  case writes => rw [exec_eq_next_perform, perform_write, writeWord_of_ne_zero d s hne]

end Sys2Proof.Spec

/-! # Proofs for 30_encoding

The conditions of the nine classes (O20), frames and operations read back from their encoding (O16, O17, O19), SETTLE
(O34), the words READ answers (O43 to O48), and the event records (O51). -/

namespace Sys2Proof.Machine

/-! ### The conditions of the classes -/

/-- The condition of each row in the table of 30_encoding R111, on the bytes of the buffer. -/
def ClassCondition (on : Bool) (buf : List Byte) : StepClass → Prop
  | .waitSync => buf = []
  | .notSync => ∃ b rest, buf = b :: rest ∧ b ≠ 0xC8#8 ∧ ¬(b = 0x0F#8 ∧ on = true)
  | .waitLen => buf = [0xC8#8]
  | .badLen => ∃ L rest, buf = 0xC8#8 :: L :: rest ∧ (L.toNat < 2 ∨ 62 < L.toNat)
  | .waitBody =>
    (∃ L rest, buf = 0xC8#8 :: L :: rest ∧ 2 ≤ L.toNat ∧ L.toNat ≤ 62 ∧ buf.length < L.toNat + 2) ∨
      (on = true ∧ ∃ rest, buf = 0x0F#8 :: rest ∧ buf.length < 25)
  | .crcOk => ∃ L body c rest, buf = 0xC8#8 :: L :: (body ++ c :: rest) ∧ 2 ≤ L.toNat ∧ L.toNat ≤ 62 ∧
      body.length + 1 = L.toNat ∧ c = crc8 (L :: body)
  | .crcBad => ∃ L body c rest, buf = 0xC8#8 :: L :: (body ++ c :: rest) ∧ 2 ≤ L.toNat ∧ L.toNat ≤ 62 ∧
      body.length + 1 = L.toNat ∧ c ≠ crc8 (L :: body)
  | .sbusOk => on = true ∧ ∃ fr rest, buf = fr ++ rest ∧ fr.length = 25 ∧ fr.head? = some 0x0F#8 ∧
      Config.sbusValid fr = true
  | .sbusBad => on = true ∧ ∃ fr rest, buf = fr ++ rest ∧ fr.length = 25 ∧ fr.head? = some 0x0F#8 ∧
      Config.sbusValid fr = false

theorem exists_cons_of_length_pos {buf : List Byte} (h : 0 < buf.length) : ∃ rest, buf = byteAt buf 0 :: rest := by
  obtain ⟨b, rest, rfl⟩ := List.exists_cons_of_length_pos h
  exact ⟨rest, rfl⟩

theorem exists_cons_cons_of_two_le_length {buf : List Byte} (h : 2 ≤ buf.length) :
    ∃ rest, buf = byteAt buf 0 :: byteAt buf 1 :: rest := by
  match buf, h with
  | b :: c :: rest, _ => exact ⟨rest, rfl⟩

/-- The bytes `frame[1..L]` and the CRC byte behind them, in a candidate written out. -/
theorem memRead_covered {L c : Byte} {body : List Byte} (rest : List Byte) (hlen : body.length + 1 = L.toNat) :
    memRead (0xC8#8 :: L :: (body ++ c :: rest)) 1 L.toNat = L :: body := by
  simp [memRead, ← hlen]

theorem byteAt_crc {L c : Byte} {body : List Byte} (rest : List Byte) (hlen : body.length + 1 = L.toNat) :
    byteAt (0xC8#8 :: L :: (body ++ c :: rest)) (L.toNat + 1) = c := by
  simp [byteAt, ← hlen]

/-- A complete CRSF candidate is its sync byte, its length byte, `L - 1` bytes and the CRC byte (30_encoding R81). -/
theorem exists_candidate {buf : List Byte} (h0 : byteAt buf 0 = 0xC8#8) (hmin : 2 ≤ (byteAt buf 1).toNat)
    (hlen : (byteAt buf 1).toNat + 2 ≤ buf.length) :
    ∃ body c rest, buf = 0xC8#8 :: byteAt buf 1 :: (body ++ c :: rest) ∧
      body.length + 1 = (byteAt buf 1).toNat := by
  obtain ⟨tail, hbuf⟩ := exists_cons_cons_of_two_le_length (Nat.le_trans (Nat.le_add_left 2 _) hlen)
  rw [h0] at hbuf
  generalize byteAt buf 1 = L at *
  subst hbuf
  rw [List.length_cons, List.length_cons] at hlen
  obtain ⟨c, rest, hdrop⟩ := List.exists_cons_of_length_pos (l := tail.drop (L.toNat - 1)) (by
    rw [List.length_drop]; omega)
  refine ⟨tail.take (L.toNat - 1), c, rest, ?_, ?_⟩
  · rw [← hdrop, List.take_append_drop]
  · rw [List.length_take]; omega

/-- A complete S.Bus candidate is its 25 bytes and the rest (30_encoding R85). -/
theorem exists_sbusCandidate {buf : List Byte} (h0 : byteAt buf 0 = 0x0F#8) (hlen : 25 ≤ buf.length) :
    ∃ rest, buf = memRead buf 0 25 ++ rest ∧ (memRead buf 0 25).length = 25 ∧
      (memRead buf 0 25).head? = some 0x0F#8 := by
  obtain ⟨tail, hbuf⟩ := exists_cons_of_length_pos (Nat.lt_of_lt_of_le (by decide) hlen)
  refine ⟨buf.drop 25, (List.take_append_drop 25 buf).symm, List.length_take_of_le hlen, ?_⟩
  rw [memRead, List.drop_zero, hbuf, h0, List.take_succ_cons, List.head?_cons]

/-- The class has its condition. -/
theorem classCondition_classify (on : Bool) (buf : List Byte) : ClassCondition on buf (classify on buf) := by
  rcases classify_cases on buf with ⟨hlen, hc⟩ | ⟨h0, hlen, hc⟩ | ⟨h0, hlen, hL, hc⟩ |
    ⟨h0, hlen, hmin, hmax, hshort, hc⟩ | ⟨h0, hmin, hmax, hlen, hcrc⟩ | ⟨h0, hon, hpos, hshort, hc⟩ |
    ⟨h0, hon, hlen, hvalid⟩ | ⟨hpos, h0, hsbus, hc⟩
  case inl => rw [hc]; exact List.length_eq_zero_iff.mp hlen
  case inr.inl =>
    obtain ⟨b, rfl⟩ := List.length_eq_one_iff.mp hlen
    rw [hc]
    exact congrArg ([·]) h0
  case inr.inr.inl =>
    obtain ⟨rest, hbuf⟩ := exists_cons_cons_of_two_le_length hlen
    rw [hc]
    exact ⟨_, rest, h0 ▸ hbuf, hL⟩
  case inr.inr.inr.inl =>
    obtain ⟨rest, hbuf⟩ := exists_cons_cons_of_two_le_length hlen
    rw [hc]
    exact .inl ⟨_, rest, h0 ▸ hbuf, hmin, hmax, hshort⟩
  case inr.inr.inr.inr.inl =>
    obtain ⟨body, c, rest, hbuf, hbody⟩ := exists_candidate h0 hmin hlen
    rw [show memRead buf 1 (byteAt buf 1).toNat = byteAt buf 1 :: body from
        (congrArg (memRead · 1 _) hbuf).trans (memRead_covered rest hbody),
      show byteAt buf ((byteAt buf 1).toNat + 1) = c from
        (congrArg (byteAt · _) hbuf).trans (byteAt_crc rest hbody)] at hcrc
    rcases hcrc with ⟨hcrc, hc⟩ | ⟨hcrc, hc⟩ <;> rw [hc]
    · exact ⟨_, body, c, rest, hbuf, hmin, hmax, hbody, hcrc.symm⟩
    · exact ⟨_, body, c, rest, hbuf, hmin, hmax, hbody, Ne.symm hcrc⟩
  case inr.inr.inr.inr.inr.inl =>
    obtain ⟨rest, hbuf⟩ := exists_cons_of_length_pos hpos
    rw [hc]
    exact .inr ⟨hon, rest, h0 ▸ hbuf, hshort⟩
  case inr.inr.inr.inr.inr.inr.inl =>
    obtain ⟨rest, hbuf, hfr, hhead⟩ := exists_sbusCandidate h0 hlen
    rcases hvalid with ⟨hvalid, hc⟩ | ⟨hvalid, hc⟩ <;> rw [hc]
    · exact ⟨hon, _, rest, hbuf, hfr, hhead, hvalid⟩
    · exact ⟨hon, _, rest, hbuf, hfr, hhead, hvalid⟩
  case inr.inr.inr.inr.inr.inr.inr =>
    obtain ⟨rest, hbuf⟩ := exists_cons_of_length_pos hpos
    rw [hc]
    exact ⟨_, rest, hbuf, h0, hsbus⟩

theorem classify_of_notSync {on : Bool} {b : Byte} (rest : List Byte) (hcrsf : b ≠ 0xC8#8)
    (hsbus : ¬(b = 0x0F#8 ∧ on = true)) : classify on (b :: rest) = .notSync := by
  simp [classify, Config.crsfSync, Config.sbusSync, hcrsf, hsbus]

/-- What R140 asks of a buffer that holds a sync byte and a length byte. -/
theorem classify_sync_length (on : Bool) (L : Byte) (rest : List Byte) :
    classify on (0xC8#8 :: L :: rest) =
      if L.toNat < 2 ∨ 62 < L.toNat then .badLen
      else if (0xC8#8 :: L :: rest).length < L.toNat + 2 then .waitBody
      else if crc8 (memRead (0xC8#8 :: L :: rest) 1 L.toNat) = byteAt (0xC8#8 :: L :: rest) (L.toNat + 1) then .crcOk
      else .crcBad := by
  rw [classify, if_neg (by simp), if_pos (by rfl), if_neg (by simp)]
  rfl

theorem classify_of_badLen (on : Bool) {L : Byte} (rest : List Byte) (hL : L.toNat < 2 ∨ 62 < L.toNat) :
    classify on (0xC8#8 :: L :: rest) = .badLen := by
  rw [classify_sync_length, if_pos hL]

/-- A complete CRSF candidate is judged by its CRC byte alone (42_synchronizer R140). -/
theorem classify_candidate (on : Bool) {L c : Byte} {body : List Byte} (rest : List Byte) (hmin : 2 ≤ L.toNat)
    (hmax : L.toNat ≤ 62) (hlen : body.length + 1 = L.toNat) :
    classify on (0xC8#8 :: L :: (body ++ c :: rest)) = if crc8 (L :: body) = c then .crcOk else .crcBad := by
  have hcomplete : ¬(0xC8#8 :: L :: (body ++ c :: rest)).length < L.toNat + 2 := by
    simp only [List.length_cons, List.length_append]; omega
  rw [classify_sync_length, if_neg (by omega), if_neg hcomplete, memRead_covered rest hlen, byteAt_crc rest hlen]

/-- A complete S.Bus candidate is judged by the open predicate alone (42_synchronizer R140). -/
theorem classify_sbusCandidate {fr : List Byte} (rest : List Byte) (hlen : fr.length = 25)
    (hhead : fr.head? = some 0x0F#8) :
    classify true (fr ++ rest) = if Config.sbusValid fr = true then .sbusOk else .sbusBad := by
  have hread : memRead (fr ++ rest) 0 Config.sbusFrameLen = fr := List.take_left' hlen
  have hcomplete : ¬(fr ++ rest).length < Config.sbusFrameLen := by
    rw [List.length_append, Config.sbusFrameLen]; omega
  have h0 : byteAt (fr ++ rest) 0 = Config.sbusSync := by
    obtain ⟨tail, rfl⟩ := List.head?_eq_some_iff.mp hhead
    rfl
  rw [classify, if_neg (by rw [List.length_append]; omega), h0, if_neg (by decide), if_pos ⟨rfl, rfl⟩,
    if_neg hcomplete, hread]

/-- The condition determines the class. -/
theorem classify_of_classCondition {on : Bool} {buf : List Byte} {c : StepClass} (h : ClassCondition on buf c) :
    classify on buf = c := by
  cases c with
  | waitSync => subst h; rfl
  | waitLen => subst h; rfl
  | notSync =>
    obtain ⟨b, rest, rfl, hcrsf, hsbus⟩ := h
    exact classify_of_notSync rest hcrsf hsbus
  | badLen =>
    obtain ⟨L, rest, rfl, hL⟩ := h
    exact classify_of_badLen on rest hL
  | waitBody =>
    rcases h with ⟨L, rest, rfl, hmin, hmax, hshort⟩ | ⟨rfl, hpending⟩
    · exact classify_of_pendingCrsf on ⟨L, rest, rfl, hmin, hmax, by simpa using hshort⟩
    · exact classify_of_pendingSbus hpending
  | crcOk =>
    obtain ⟨L, body, c, rest, rfl, hmin, hmax, hlen, hcrc⟩ := h
    rw [classify_candidate on rest hmin hmax hlen, if_pos hcrc.symm]
  | crcBad =>
    obtain ⟨L, body, c, rest, rfl, hmin, hmax, hlen, hcrc⟩ := h
    rw [classify_candidate on rest hmin hmax hlen, if_neg (Ne.symm hcrc)]
  | sbusOk =>
    obtain ⟨rfl, fr, rest, rfl, hlen, hhead, hvalid⟩ := h
    rw [classify_sbusCandidate rest hlen hhead, if_pos hvalid]
  | sbusBad =>
    obtain ⟨rfl, fr, rest, rfl, hlen, hhead, hvalid⟩ := h
    rw [classify_sbusCandidate rest hlen hhead, hvalid, if_neg (by decide)]

theorem classify_eq_iff (on : Bool) (buf : List Byte) (c : StepClass) :
    classify on buf = c ↔ ClassCondition on buf c :=
  ⟨fun h => h ▸ classCondition_classify on buf, classify_of_classCondition⟩

/-- The step of each row in the table of 30_encoding R111. -/
theorem decodeStep_eq_ok_iff (c : StepClass) (i : Instr) :
    decodeStep c = .ok i ↔ (c, i) ∈ [(StepClass.notSync, Instr.drop), (.badLen, .lenReject), (.crcOk, .emit),
      (.crcBad, .crcReject), (.sbusOk, .sbusAccept), (.sbusBad, .sbusReject)] := by
  cases c <;> simp [decodeStep, eq_comm]

end Sys2Proof.Machine

namespace Sys2Proof.Spec

open Sys2Proof.Machine

/-- Settles O20: the classes' conditions are the rows of R111, with S.Bus enabled as `sbusOn` says. -/
theorem classesHaveTheConditionsOfTheTable : Obligations.ClassesHaveTheConditionsOfTheTable := by
  unfold Obligations.ClassesHaveTheConditionsOfTheTable
  intro s
  have row := classify_eq_iff (sbusOn s) s.buf
  simp only [← sbusOn_iff]
  exact ⟨row .waitSync, row .notSync, row .waitLen, row .badLen, row .waitBody, row .crcOk, row .crcBad, row .sbusOk,
    row .sbusBad, decodeStep_eq_ok_iff⟩

end Sys2Proof.Spec

namespace Sys2Proof.Machine

/-! ### Frames and the decoders they stand for -/

theorem decodeType_of_unknown {t : Byte} (p : List Byte) (h : knownTypes.contains t = false) :
    decodeType t p = .decUnknown t p := by
  simp only [knownTypes, List.contains_cons, List.contains_nil, Bool.or_false, Bool.or_eq_false_iff,
    beq_eq_false_iff_ne] at h
  obtain ⟨hgps, hvario, hbattery, hlinkstat, hchannels, hattitude, hflightmode⟩ := h
  simp only [decodeType, if_neg, *, not_false_eq_true]

/-- A type byte selects a decoder of its own or DEC_UNKNOWN; either encodes to the frame it was selected from
(30_encoding R86). -/
theorem encode_decodeType (t : Byte) (p : List Byte) : encode (decodeType t p) = .frame (frameBytes t p) := by
  by_cases h : knownTypes.contains t = true
  · simp only [knownTypes, List.contains_iff_mem, List.mem_cons, List.not_mem_nil, or_false] at h
    rcases h with rfl | rfl | rfl | rfl | rfl | rfl | rfl <;> rfl
  · rw [decodeType_of_unknown p (Bool.eq_false_iff.mpr h)]
    rfl

theorem decodeType_wf (t : Byte) {p : List Byte} (hp : p.length ≤ 60) : (decodeType t p).wf = true := by
  have hfits : payloadFits p = true := decide_eq_true hp
  by_cases h : knownTypes.contains t = true
  · simp only [knownTypes, List.contains_iff_mem, List.mem_cons, List.not_mem_nil, or_false] at h
    rcases h with rfl | rfl | rfl | rfl | rfl | rfl | rfl <;> exact hfits
  · rw [decodeType_of_unknown p (Bool.eq_false_iff.mpr h), Instr.wf, hfits, Bool.eq_false_iff.mpr h]
    rfl

/-- A well-formed operation that encodes to a frame is the decoder its type byte selects, on its payload. -/
theorem eq_decodeType_of_encode {i : Instr} {fr : List Byte} (hwf : i.wf = true) (h : encode i = .frame fr) :
    ∃ t p, p.length ≤ 60 ∧ fr = frameBytes t p ∧ i = decodeType t p := by
  cases i
  case decGps p | decVario p | decBattery p | decLinkstat p | decChannels p | decAttitude p | decFlightmode p =>
    exact ⟨_, p, of_decide_eq_true hwf, (Code.frame.inj h).symm, rfl⟩
  case decUnknown t p =>
    obtain ⟨hfits, hunknown⟩ := Bool.and_eq_true_iff.mp hwf
    exact ⟨t, p, of_decide_eq_true hfits, (Code.frame.inj h).symm,
      (decodeType_of_unknown p (Bool.not_eq_true' _ ▸ hunknown)).symm⟩
  all_goals nomatch h

/-- A complete candidate with its CRC byte right is read as the decoder of its type byte, and the bytes behind it are
left (30_encoding R81 to R86). -/
theorem decodeFrame_frameBytes (t : Byte) {p : List Byte} (rest : List Byte) (hp : p.length ≤ 60) :
    decodeFrame (frameBytes t p ++ rest) = .ok (decodeType t p, rest) := by
  have hL := toNat_lengthByte hp
  have hform : frameBytes t p ++ rest = 0xC8#8 :: BitVec.ofNat 8 (p.length + 2) ::
      ((t :: p) ++ crc8 (BitVec.ofNat 8 (p.length + 2) :: t :: p) :: rest) := by
    simp [frameBytes_eq, Config.crsfSync]
  have hclass : classify false (frameBytes t p ++ rest) = .crcOk := by
    rw [hform, classify_candidate false rest (by omega) (by omega) (by rw [hL, List.length_cons]), if_pos rfl]
  have hlength : byteAt (frameBytes t p ++ rest) 1 = BitVec.ofNat 8 (p.length + 2) := by rw [hform, byteAt_cons_one]
  have htype : byteAt (frameBytes t p ++ rest) 2 = t := by rw [hform]; rfl
  have hpayload : memRead (frameBytes t p ++ rest) 3 p.length = p := by simp [hform, memRead]
  have hrest : (frameBytes t p ++ rest).drop (p.length + 2 + 2) = rest := List.drop_left' (length_frameBytes t p)
  simp only [decodeFrame, hclass, hlength, htype, hL, Nat.add_sub_cancel, hpayload, hrest]

/-- What is read from a byte sequence is a frame at its front (30_encoding R106, R110). -/
theorem frameBytes_of_decodeFrame {bytes rest : List Byte} {i : Instr} (h : decodeFrame bytes = .ok (i, rest)) :
    ∃ t p, p.length ≤ 60 ∧ bytes = frameBytes t p ++ rest ∧ i = decodeType t p := by
  have hclass : classify false bytes = .crcOk := by
    cases hc : classify false bytes
    case crcOk => rfl
    all_goals simp only [decodeFrame, hc] at h; nomatch h
  obtain ⟨L, body, c, tail, rfl, hmin, hmax, hlen, rfl⟩ := (classify_eq_iff _ _ _).mp hclass
  match body with
  | [] => rw [List.length_nil] at hlen; omega
  | t :: p =>
    have hp : p.length ≤ 60 := by rw [List.length_cons] at hlen; omega
    have hL : L = BitVec.ofNat 8 (p.length + 2) := by
      rw [List.length_cons] at hlen
      exact BitVec.eq_of_toNat_eq (by rw [toNat_lengthByte hp, ← hlen])
    have hform : 0xC8#8 :: L :: (t :: p ++ crc8 (L :: t :: p) :: tail) = frameBytes t p ++ tail := by
      simp [frameBytes_eq, Config.crsfSync, hL]
    rw [hform, decodeFrame_frameBytes t tail hp] at h
    obtain ⟨rfl, rfl⟩ := Prod.mk.inj (Except.ok.inj h)
    exact ⟨t, p, hp, hform, rfl⟩

theorem decode_encode_of_frame {i : Instr} {fr : List Byte} (hwf : i.wf = true) (h : encode i = .frame fr) :
    decode (encode i) = .ok i := by
  obtain ⟨t, p, hp, rfl, rfl⟩ := eq_decodeType_of_encode hwf h
  have hread := decodeFrame_frameBytes t [] hp
  rw [List.append_nil] at hread
  rw [h, decode, hread]
  rfl

end Sys2Proof.Machine

namespace Sys2Proof.Spec

open Sys2Proof.Machine

/-- Settles O16: a decoder is read back from its frame; the codes of the other operations hold their class, request or
operands. -/
theorem decodeInvertsEncode : Obligations.DecodeInvertsEncode := by
  unfold Obligations.DecodeInvertsEncode
  intro i hwf
  cases i
  case decGps | decVario | decBattery | decLinkstat | decChannels | decAttitude | decFlightmode | decUnknown =>
    exact decode_encode_of_frame hwf rfl
  case drop | lenReject | crcReject | emit | sbusAccept | sbusReject => rfl
  case push | read | write | pop | reset => rfl
  case crc8Step | crc8 | unpack | usMap => rfl

/-- Settles O17: the frame of a well-formed decoder is `frameBytes` of its type byte and payload, and only a complete
candidate with its CRC byte right, which is such a frame and a rest, is read at all. -/
theorem framesAreReadBackExactly : Obligations.FramesAreReadBackExactly := by
  unfold Obligations.FramesAreReadBackExactly
  refine ⟨fun i bytes rest hwf henc => ?reads, fun i bytes rest h => ?only⟩
  case reads =>
    obtain ⟨t, p, hp, rfl, rfl⟩ := eq_decodeType_of_encode hwf henc
    exact decodeFrame_frameBytes t rest hp
  case only =>
    obtain ⟨t, p, hp, rfl, rfl⟩ := frameBytes_of_decodeFrame h
    exact ⟨decodeType_wf t hp, _, encode_decodeType t p, rfl⟩

/-- Settles O19 by evaluating the decoder on the seven codes. -/
theorem sampleWordsDecode : Obligations.SampleWordsDecode := by
  unfold Obligations.SampleWordsDecode
  refine ⟨?vario, ?attitude, ?unknown, ?wrongCrc, ?badLength, rfl, rfl⟩
  all_goals decide +kernel

end Sys2Proof.Spec

namespace Sys2Proof.Machine

/-! ### SETTLE -/

/-- A step that a class selects is an engine step, so neither a POP nor a RESET. -/
theorem ne_pop_reset_of_decodeStep {c : StepClass} {i : Instr} (h : decodeStep c = .ok i) : i ≠ .pop ∧ i ≠ .reset := by
  cases c <;> cases h <;> exact ⟨nofun, nofun⟩

theorem exists_selected_of_not_isWaiting {c : StepClass} (h : isWaiting c = false) : ∃ i, decodeStep c = .ok i := by
  cases c
  case waitSync | waitLen | waitBody => nomatch h
  all_goals exact ⟨_, rfl⟩

/-- An engine's turn is an operation of the block, or nothing. -/
theorem engineTurn_cases (s : State) :
    engineTurn s = s ∨ ∃ i, i ≠ .pop ∧ i ≠ .reset ∧ engineTurn s = perform i s := by
  unfold engineTurn
  split
  next i hi =>
    obtain ⟨hpop, hreset⟩ := ne_pop_reset_of_decodeStep hi
    exact .inr ⟨i, hpop, hreset, rfl⟩
  next => exact .inl rfl

theorem engineTurn_keeps_stateInv {s : State} (hs : StateInv s) : StateInv (engineTurn s) := by
  rcases engineTurn_cases s with h | ⟨i, -, -, h⟩ <;> rw [h]
  · exact hs
  · exact perform_keeps_stateInv i hs

/-- An engine's turn emits at most one event (20_memory R64). -/
theorem engineTurn_evq_length_le (s : State) : (engineTurn s).evq.length ≤ s.evq.length + 1 := by
  rcases engineTurn_cases s with h | ⟨i, hpop, hreset, h⟩ <;> rw [h]
  · exact Nat.le_succ _
  · obtain ⟨new, hnew, hevq⟩ := (effect_perform i s).evq_appends hpop hreset
    rw [hevq, List.length_append]
    exact Nat.add_le_add_left hnew _

/-- The bound of SETTLE: a byte of the buffer can cost an engine step and the POP of the event it emits (log 23). -/
def settleMeasure (s : State) : Nat := 2 * s.buf.length + s.evq.length

/-- The step consumes a byte, which counts twice, and emits one event at most. -/
theorem settleMeasure_engineTurn_lt {s : State} (hq : quiescent s = false) (hh : held s = false) :
    settleMeasure (engineTurn s) < settleMeasure s := by
  obtain ⟨hpos, hlen⟩ := stepLength_bounds hq
  have hbuf := congrArg List.length (engineTurn_consumes hq hh).1
  have hevq := engineTurn_evq_length_le s
  rw [List.length_drop] at hbuf
  unfold settleMeasure
  omega

/-- A held engine has a full `evq`, which holds one record at least, as `EV_DEPTH` is at least 1 (00_scope R9). -/
theorem evq_length_pos_of_held {s : State} (hs : StateInv s) (hh : held s = true) : 0 < s.evq.length := by
  have hparams := hs.params
  simp only [held, evqBlocks, Bool.and_eq_true, Bool.not_eq_true', decide_eq_false_iff_not, Nat.not_lt] at hh
  simp only [Config.Params.wf, decide_eq_true_eq] at hparams
  omega

theorem settleMeasure_pop_lt {s : State} (hs : StateInv s) (hh : held s = true) :
    settleMeasure (perform .pop s) < settleMeasure s := by
  have hpos := evq_length_pos_of_held hs hh
  simp only [settleMeasure, perform_pop, popEvent_buf, popEvent_evq, List.length_tail]
  omega

theorem quiescent_of_buf_eq_nil {s : State} (h : s.buf = []) : quiescent s = true := by
  rw [quiescent, classOf, h]
  rfl

/-- Each of SETTLE's turns lowers the measure, and a state of measure 0 has no byte left. -/
theorem quiescent_settleTurns {n : Nat} {s : State} (hs : StateInv s) (hn : settleMeasure s ≤ n) :
    quiescent (settleTurns n s) = true := by
  induction n generalizing s with
  | zero =>
    unfold settleMeasure at hn
    exact quiescent_of_buf_eq_nil (s := s) (List.length_eq_zero_iff.mp (by omega))
  | succ n ih =>
    unfold settleTurns
    split
    next hq => exact hq
    next hq =>
      split
      next hh => exact ih (perform_keeps_stateInv .pop hs) (by have := settleMeasure_pop_lt hs hh; omega)
      next hh =>
        have := settleMeasure_engineTurn_lt (Bool.eq_false_iff.mpr hq) (Bool.eq_false_iff.mpr hh)
        exact ih (engineTurn_keeps_stateInv hs) (by omega)

end Sys2Proof.Machine

namespace Sys2Proof.Spec

open Sys2Proof.Machine

/-- Settles O34: SETTLE runs as many turns as its measure counts. -/
theorem settleReachesQuiescence : Obligations.SettleReachesQuiescence := by
  unfold Obligations.SettleReachesQuiescence
  exact fun s hs => quiescent_settleTurns hs (Nat.le_refl (settleMeasure s))

end Sys2Proof.Spec

namespace Sys2Proof.Machine

/-! ### The words of the register window -/

/-- Within its length a vector's list has the vector's element. -/
theorem toList_getD_of_lt {α : Type} {n : Nat} (v : Vector α n) {i : Nat} (hi : i < n) (d : α) :
    v.toList.getD i d = v[i] := by
  simp [List.getD_eq_getElem?_getD, hi]

/-- READ answers the word of the window and changes nothing else (44_host_interface R200). -/
theorem readAnswers_of_readAt {i : Nat} {s : State} {good : Word → Prop} (h : good (readAt s i)) :
    Spec.readAnswers i s good := ⟨readAt s i, rfl, h⟩

/-- READ of a field sign-extended to 32 bits answers the field's integer (30_encoding R104). -/
theorem readAnswers_signExtend {n : Nat} {x : BitVec n} {i : Nat} {s : State} (hn : n ≤ 32)
    (h : readAt s i = x.signExtend 32) : Spec.readAnswers i s (fun w => w.toInt = x.toInt) :=
  readAnswers_of_readAt (h ▸ BitVec.toInt_signExtend_of_le hn)

/-- READ of a field zero-extended to 32 bits answers the field's number (30_encoding R104). -/
theorem readAnswers_setWidth {n : Nat} {x : BitVec n} {i : Nat} {s : State} (hn : n ≤ 32)
    (h : readAt s i = x.setWidth 32) : Spec.readAnswers i s (fun w => w.toNat = x.toNat) :=
  readAnswers_of_readAt (h ▸ BitVec.toNat_setWidth_of_le hn)

/-- The words 16 to 31 are the channel words (20_memory R68). -/
theorem readAt_channel (s : State) {k : Nat} (hk : k < 16) : readAt s (16 + k) = channelWord s.results.chRaw[k] := by
  have hindex : (BitVec.ofNat 7 (16 + k)).toNat = 16 + k := by rw [BitVec.toNat_ofNat]; omega
  rw [readAt, readWord, hindex]
  simp (disch := omega) only [if_neg, if_pos, Nat.add_sub_cancel_left, toList_getD_of_lt]

/-- The words 73 to 87 are the words of the FlightMode string (20_memory R68). -/
theorem readAt_fmStr (s : State) {j : Nat} (hj : j < 15) : readAt s (73 + j) = fmWord s.results.flightMode.str j := by
  have hindex : (BitVec.ofNat 7 (73 + j)).toNat = 73 + j := by rw [BitVec.toNat_ofNat]; omega
  rw [readAt, readWord_eq_fieldWord s (by omega), hindex]
  simp (disch := omega) only [fieldWord, if_neg, if_pos, Nat.add_sub_cancel_left]

/-! ### The channel words -/

theorem usMap_lt (raw : Raw) : usMap raw < 2 ^ 11 := by
  have := raw.isLt
  simp only [usMap, Config.usBase, Config.usSpan, Config.usDiv]
  omega

/-- The channel word written out, from bit 31 down (30_encoding R103). -/
theorem channelWord_eq (raw : Raw) : channelWord raw = 0#5 ++ BitVec.ofNat 11 (usMap raw) ++ 0#5 ++ raw := by
  have hus := usMap_lt raw
  have hshift : usMap raw <<< 16 < 2 ^ 32 := by rw [Nat.shiftLeft_eq]; omega
  apply BitVec.eq_of_toNat_eq
  simp only [channelWord, BitVec.toNat_or, BitVec.toNat_shiftLeft, BitVec.toNat_append, BitVec.toNat_ofNat,
    BitVec.toNat_setWidth_of_le (show 11 ≤ 32 by decide)]
  rw [Nat.mod_eq_of_lt hus, Nat.mod_eq_of_lt (Nat.lt_trans hus (by decide)), Nat.mod_eq_of_lt hshift]
  simp [← Nat.shiftLeft_add]

/-! ### The FlightMode words -/

/-- String byte `4j + i` is byte `i` of the word, the first least significant (30_encoding R105). -/
theorem fmWord_extractLsb' (str : Vector Byte 60) (j : Nat) {i : Nat} (hi : i < 4) :
    (fmWord str j).extractLsb' (8 * i) 8 = str.toList.getD (4 * j + i) 0 := by
  unfold fmWord
  match i, hi with
  | 0, _ | 1, _ | 2, _ | 3, _ =>
    simp (disch := decide) only [BitVec.extractLsb'_append_eq_of_le, BitVec.extractLsb'_append_eq_of_add_le,
      BitVec.extractLsb'_eq_self, Nat.reduceSub, Nat.reduceMul, Nat.add_zero]

end Sys2Proof.Machine

namespace Sys2Proof.Spec

open Sys2Proof.Machine

/-- Settles O43: the window has each counter at its index, and `REC_VALID` zero-extended. -/
theorem readAnswersTheCounterWords : Obligations.ReadAnswersTheCounterWords := by
  unfold Obligations.ReadAnswersTheCounterWords
  intro s
  refine ⟨?validated, ?rejected, ?consumed, ?tooShort, ?recValid, ?channels, ?linkStat, ?attitude, ?flightMode,
    ?battery, ?gps, ?vario⟩
  case recValid => exact readAnswers_setWidth (by decide) rfl
  all_goals exact readAnswers_of_readAt rfl

/-- Settles O45: extending a field to 32 bits keeps its value, as an integer for a signed field and as a natural number
for an unsigned one. -/
theorem readAnswersTheTelemetryWords : Obligations.ReadAnswersTheTelemetryWords := by
  unfold Obligations.ReadAnswersTheTelemetryWords
  intro s
  refine ⟨?rssi1, ?rssi2, ?lq, ?mode, ?pitch, ?roll, ?yaw, ?voltage, ?current, ?mah, ?percent, ?lat, ?lon, ?gspd, ?hdg,
    ?alt, ?sats, ?vspd⟩
  case rssi1 | rssi2 | pitch | roll | yaw | voltage | current | gspd | hdg | vspd =>
    exact readAnswers_signExtend (by decide) rfl
  case lq | mode | mah | percent | sats => exact readAnswers_setWidth (by decide) rfl
  case lat | lon | alt => exact readAnswers_of_readAt rfl

/-- Settles O44: the microseconds fit the eleven bits of `US`, so the four parts of the word are apart. -/
theorem readAnswersTheChannelWords : Obligations.ReadAnswersTheChannelWords := by
  unfold Obligations.ReadAnswersTheChannelWords
  intro s k hk
  refine readAnswers_of_readAt ?_
  rw [readAt_channel s hk, channelWord_eq]
  generalize s.results.chRaw[k] = raw
  simp (disch := decide) only [BitVec.extractLsb'_append_eq_of_le, BitVec.extractLsb'_append_eq_of_add_le,
    BitVec.extractLsb'_eq_self, Nat.reduceSub, BitVec.toNat_ofNat, Nat.mod_eq_of_lt (usMap_lt raw)]
  exact ⟨trivial, trivial, rfl, trivial⟩

/-- Settles O46: the invariant bounds the length and keeps the bytes at and beyond it 0. -/
theorem readAnswersTheFlightModeWords : Obligations.ReadAnswersTheFlightModeWords := by
  unfold Obligations.ReadAnswersTheFlightModeWords
  intro s hs
  refine ⟨readAnswers_of_readAt ?len, fun j hj => readAnswers_of_readAt fun i hi hij => ?str⟩
  case len =>
    have hvalue : (s.results.flightMode.len.setWidth 32).toNat = s.results.flightMode.len.toNat :=
      BitVec.toNat_setWidth_of_le (by decide)
    exact ⟨hvalue, hvalue ▸ hs.fmLen⟩
  case str =>
    rw [readAt_fmStr s hj, fmWord_extractLsb' _ j hi]
    exact ⟨toList_getD_of_lt _ hij 0, hs.fmTail _⟩

end Sys2Proof.Spec

namespace Sys2Proof.Machine

/-! ### STATUS and CTRL -/

theorem candLen_of_candidate {s : State} {L : Byte} {rest : List Byte} (h : s.buf = 0xC8#8 :: L :: rest) :
    candLen s = L := by
  rw [candLen, h, if_pos ⟨rfl, Nat.le_add_left 2 _⟩, byteAt_cons_one]

theorem candLen_of_no_candidate {s : State} (h : ∀ L rest, s.buf ≠ 0xC8#8 :: L :: rest) : candLen s = 0#8 := by
  refine if_neg fun ⟨hhead, hlen⟩ => ?_
  obtain ⟨rest, hbuf⟩ := exists_cons_cons_of_two_le_length hlen
  rw [hbuf, List.head?_cons, Option.some.injEq] at hhead
  exact h _ rest (hhead ▸ hbuf)

theorem candDialect_iff (s : State) :
    candDialect s = true ↔ s.buf.head? = some 0x0F#8 ∧ Spec.sbusEnabled s := by
  rw [candDialect, Bool.and_eq_true, decide_eq_true_iff, sbusOn_iff]
  rfl

theorem evFull_iff (s : State) : evFull s = true ↔ s.evq.length = s.params.evDepth := beq_iff_eq

theorem isWaiting_iff (c : StepClass) : isWaiting c = true ↔ c = .waitSync ∨ c = .waitLen ∨ c = .waitBody := by
  cases c <;> simp [isWaiting]

theorem quiescent_iff (s : State) :
    quiescent s = true ↔ classOf s = .waitSync ∨ classOf s = .waitLen ∨ classOf s = .waitBody :=
  isWaiting_iff (classOf s)

/-- The places of the fields of STATUS (30_encoding R100). -/
theorem statusWord_fields (s : State) :
    (statusWord s).extractLsb' 0 3 = stateCode (classOf s) ∧ (statusWord s).getLsbD 3 = quiescent s ∧
    (statusWord s).getLsbD 4 = candDialect s ∧ (statusWord s).getLsbD 5 = evFull s ∧
    (statusWord s).extractLsb' 6 2 = 0#2 ∧ (statusWord s).extractLsb' 8 7 = BitVec.ofNat 7 s.buf.length ∧
    (statusWord s).getLsbD 15 = false ∧ (statusWord s).extractLsb' 16 8 = BitVec.ofNat 8 s.evq.length ∧
    (statusWord s).extractLsb' 24 8 = candLen s := by
  unfold statusWord
  simp (disch := decide) only [BitVec.extractLsb'_append_eq_of_le, BitVec.extractLsb'_append_eq_of_add_le,
    BitVec.extractLsb'_eq_self, Nat.reduceSub, BitVec.getLsbD_append]
  simp

/-- The places of the fields of CTRL (30_encoding R99). -/
theorem ctrlWord_fields (s : State) :
    (ctrlWord s).getLsbD 0 = s.ctrl.evEn ∧ (ctrlWord s).getLsbD 1 = sbusOn s ∧
    (ctrlWord s).extractLsb' 2 30 = 0#30 := by
  unfold ctrlWord
  simp (disch := decide) only [BitVec.extractLsb'_append_eq_of_le, BitVec.extractLsb'_eq_self, Nat.reduceSub,
    BitVec.getLsbD_append]
  simp

/-- Where S.Bus is not implemented `SBUS_EN` stays 0, so it says by itself whether S.Bus is on (10_state R29). -/
theorem sbusOn_eq_sbusEn {s : State} (hs : StateInv s) : sbusOn s = s.ctrl.sbusEn := by
  cases himpl : s.params.sbusImpl
  · rw [sbusOn, himpl, hs.sbusEn himpl]; rfl
  · rw [sbusOn, himpl, Bool.true_and]

/-- WRITE of word 0 sets `SBUS_EN` from bit 1 where S.Bus is implemented; else it was 0 and stays (44_host_interface
R201). -/
theorem writeWord_zero {s : State} (d : Word) (hs : StateInv s) :
    writeWord 0#7 d s = { s with ctrl := ⟨d.getLsbD 0, s.params.sbusImpl && d.getLsbD 1⟩ } := by
  rw [writeWord, if_pos (by rfl)]
  cases himpl : s.params.sbusImpl
  · rw [hs.sbusEn himpl]; rfl
  · rfl

/-! ### The event records -/

theorem dialectBit_getLsbD (d : Dialect) : (dialectBit d).getLsbD 0 = decide (d = .sbus) := by
  cases d <;> rfl

theorem packBytes_lt (l : List Byte) : packBytes l < 2 ^ (8 * l.length) := by
  induction l with
  | nil => exact Nat.one_pos
  | cons b rest ih =>
    have := b.isLt
    rw [packBytes, List.length_cons, Nat.mul_succ, Nat.pow_add]
    omega

/-- Byte `j` of the packed number is byte `j` of the sequence (20_memory R55). -/
theorem packBytes_div_mod (l : List Byte) (j : Nat) : packBytes l / 256 ^ j % 256 = (l.getD j 0).toNat := by
  induction l generalizing j with
  | nil => simp [packBytes]
  | cons b rest ih =>
    have := b.isLt
    cases j with
    | zero => rw [packBytes, List.getD_cons_zero]; omega
    | succ j =>
      have hshift : (b.toNat + 256 * packBytes rest) / 256 = packBytes rest := by omega
      rw [packBytes, List.getD_cons_succ, ← ih j, Nat.pow_succ', ← Nat.div_div_eq_div_mul, hshift]

/-- A field wide enough for the bytes of a sequence holds byte `j` in bits `8j+7 : 8j` (30_encoding R97). -/
theorem packBytes_extractLsb' {w : Nat} {l : List Byte} (hw : 8 * l.length ≤ w) (j : Nat) :
    (BitVec.ofNat w (packBytes l)).extractLsb' (8 * j) 8 = l.getD j 0 := by
  have hlt : packBytes l < 2 ^ w := Nat.lt_of_lt_of_le (packBytes_lt l) (Nat.pow_le_pow_right (by decide) hw)
  apply BitVec.eq_of_toNat_eq
  rw [BitVec.extractLsb'_toNat, BitVec.toNat_ofNat, Nat.mod_eq_of_lt hlt, Nat.shiftRight_eq_div_pow, Nat.pow_mul]
  exact packBytes_div_mod l j

theorem eventBits_accepted_payload (d : Dialect) (ty : Byte) (n : BitVec 6) (p : Vector Byte 60) {j : Nat}
    (hj : j < 60) : (eventBits (.accepted d ty n p)).extractLsb' (32 + 8 * j) 8 = p[j] := by
  have hplace : 32 + 8 * j - 1 - 1 - 2 - 4 - 8 - 6 - 10 = 8 * j := by omega
  unfold eventBits
  simp (disch := omega) only [BitVec.extractLsb'_append_eq_of_le, hplace]
  rw [packBytes_extractLsb' (by rw [Vector.length_toList]), toList_getD_of_lt p hj]

theorem eventBits_accepted_fields (d : Dialect) (ty : Byte) (n : BitVec 6) (p : Vector Byte 60) :
    (eventBits (.accepted d ty n p)).getLsbD 0 = false ∧
    (eventBits (.accepted d ty n p)).getLsbD 1 = decide (d = .sbus) ∧
    (eventBits (.accepted d ty n p)).extractLsb' 2 2 = 0#2 ∧
    (eventBits (.accepted d ty n p)).extractLsb' 4 4 = 0#4 ∧
    (eventBits (.accepted d ty n p)).extractLsb' 8 8 = ty ∧ (eventBits (.accepted d ty n p)).extractLsb' 16 6 = n ∧
    (eventBits (.accepted d ty n p)).extractLsb' 22 10 = 0#10 := by
  unfold eventBits
  simp (disch := decide) only [BitVec.extractLsb'_append_eq_of_le, BitVec.extractLsb'_append_eq_of_add_le,
    BitVec.extractLsb'_eq_self, Nat.reduceSub, BitVec.getLsbD_append]
  simp [← dialectBit_getLsbD]

theorem eventBits_rejected_fields (d : Dialect) (r : Reason) :
    (eventBits (.rejected d r)).getLsbD 0 = true ∧ (eventBits (.rejected d r)).getLsbD 1 = decide (d = .sbus) ∧
    (eventBits (.rejected d r)).extractLsb' 2 2 = reasonBits r ∧
    (eventBits (.rejected d r)).extractLsb' 4 508 = 0#508 := by
  unfold eventBits
  simp (disch := decide) only [BitVec.extractLsb'_append_eq_of_le, BitVec.extractLsb'_append_eq_of_add_le,
    BitVec.extractLsb'_eq_self, Nat.reduceSub, BitVec.getLsbD_append, ← dialectBit_getLsbD]
  simp

end Sys2Proof.Machine

namespace Sys2Proof.Spec

open Sys2Proof.Machine

/-- Settles O47: each field is in its place, and under the invariant both levels fit their fields. -/
theorem readAnswersTheStatusWord : Obligations.ReadAnswersTheStatusWord := by
  unfold Obligations.ReadAnswersTheStatusWord
  intro s hs
  obtain ⟨hstate, hquiescent, hdialect, hfull, hreserved, hbuf, hbit15, hevq, hlen⟩ := statusWord_fields s
  refine readAnswers_of_readAt ?_
  have hword : readAt s 1 = statusWord s := rfl
  rw [hword, hstate, hquiescent, hdialect, hfull, hreserved, hbuf, hbit15, hevq, hlen]
  refine ⟨?state, quiescent_iff s, candDialect_iff s, evFull_iff s, rfl, ?bufLevel, rfl, ?evLevel,
    fun L rest => candLen_of_candidate, candLen_of_no_candidate⟩
  case state => cases classOf s <;> rfl
  case bufLevel =>
    have hcap : s.buf.length ≤ 64 := of_decide_eq_true hs.buf
    rw [BitVec.toNat_ofNat]; omega
  case evLevel =>
    obtain ⟨-, hdepth⟩ : 1 ≤ s.params.evDepth ∧ s.params.evDepth ≤ 255 := of_decide_eq_true hs.params
    have hcap := hs.evq
    rw [BitVec.toNat_ofNat]; omega

/-- Settles O48: the invariant keeps `SBUS_EN` at 0 where S.Bus is not implemented, so the write and the word agree with
the field. -/
theorem writeAndReadOfTheControlWord : Obligations.WriteAndReadOfTheControlWord := by
  unfold Obligations.WriteAndReadOfTheControlWord
  intro s d hs
  obtain ⟨hev, hsbus, hreserved⟩ := ctrlWord_fields s
  refine ⟨⟨_, congrArg Host.Outcome.next (writeWord_zero d hs), rfl, rfl, rfl⟩, readAnswers_of_readAt ?read⟩
  case read => exact ⟨hev, hsbus.trans (sbusOn_eq_sbusEn hs), hreserved⟩

/-- Settles O51: the fields of either record are the parts it is put together from. -/
theorem eventRecordsHaveTheirFields : Obligations.EventRecordsHaveTheirFields := by
  unfold Obligations.EventRecordsHaveTheirFields
  refine ⟨fun d ty n p => ?accepted, fun d r => ?rejected⟩
  case accepted =>
    obtain ⟨hkind, hdialect, hreason, hreserved, htype, hplen, hreserved'⟩ := eventBits_accepted_fields d ty n p
    exact ⟨hkind, hdialect, hreason, hreserved, htype, hplen, hreserved', fun j => eventBits_accepted_payload d ty n p⟩
  case rejected =>
    obtain ⟨hkind, hdialect, hreason, hrest⟩ := eventBits_rejected_fields d r
    exact ⟨hkind, hdialect, hreason.trans (by cases r <;> rfl), hrest⟩

end Sys2Proof.Spec

/-! # Proofs for 40_crc8

The shifts as a map with trivial kernel (O3), the step as a look-up in the table (O1), and the fold (O2). -/

namespace Sys2Proof.Machine

theorem perform_crc8Step (acc b : Byte) (s : State) :
    perform (.crc8Step acc b) s = answer (.checksum (crc8Step acc b)) s := rfl

theorem perform_crc8 (bytes : List Byte) (s : State) :
    perform (.crc8 bytes) s = answer (.checksum (crc8 bytes)) s := rfl

/-! ### The shifts lose nothing -/

/-- The polynomial is odd, so a shift that XORs it in leaves bit 0 set; a shift that does not drops a zero bit. -/
theorem crcShift_eq_zero_iff (a : Byte) : crcShift a = 0#8 ↔ a = 0#8 := by
  refine ⟨fun h => ?_, by rintro rfl; rfl⟩
  unfold crcShift at h
  split at h
  case isTrue =>
    have hbit : ((a <<< 1) ^^^ Config.crcPoly).getLsbD 0 = true := by simp [Config.crcPoly]
    rw [h] at hbit
    exact absurd hbit (by decide)
  case isFalse htop =>
    have hmsb : a.msb = false := Bool.eq_false_of_not_eq_true htop
    have hlow := BitVec.msb_eq_false_iff_two_mul_lt.mp hmsb
    bv_omega

theorem crcShifts_eq_zero_iff (n : Nat) (a : Byte) : crcShifts n a = 0#8 ↔ a = 0#8 := by
  induction n generalizing a with
  | zero => rfl
  | succ n ih => exact (ih (crcShift a)).trans (crcShift_eq_zero_iff a)

/-- The accumulator becomes zero exactly on the byte equal to it. -/
theorem crc8Step_eq_zero_iff (acc b : Byte) : crc8Step acc b = 0#8 ↔ b = acc :=
  calc crc8Step acc b = 0#8
    _ ↔ acc ^^^ b = 0#8 := crcShifts_eq_zero_iff 8 (acc ^^^ b)
    _ ↔ acc = b := BitVec.xor_eq_zero_iff
    _ ↔ b = acc := eq_comm

/-! ### The table -/

/-- The 256 entries of the table written out in R124 are the eight shifts of their indices. -/
theorem crcEntry_eq_crcShifts : ∀ i : Byte, Spec.crcEntry i = crcShifts 8 i := by decide +kernel

theorem crc8Step_eq_crcEntry (acc b : Byte) : crc8Step acc b = Spec.crcEntry (acc ^^^ b) :=
  (crcEntry_eq_crcShifts (acc ^^^ b)).symm

/-! ### The fold -/

theorem crc8_eq_foldl_crcEntry (bytes : List Byte) :
    crc8 bytes = bytes.foldl (fun acc b => Spec.crcEntry (acc ^^^ b)) 0#8 := by
  have hstep : crc8Step = fun acc b => Spec.crcEntry (acc ^^^ b) := funext₂ crc8Step_eq_crcEntry
  rw [crc8, hstep, Config.crcInit]

/-- A leading zero byte leaves the accumulator at its initial value (40_crc8 R121). -/
theorem crc8_zero_cons (bytes : List Byte) : crc8 (0#8 :: bytes) = crc8 bytes := by
  have hstep : crc8Step Config.crcInit 0#8 = Config.crcInit := (crc8Step_eq_zero_iff 0#8 0#8).mpr rfl
  rw [crc8, List.foldl_cons, hstep, crc8]

theorem crc8_concat (bytes : List Byte) (c : Byte) : crc8 (bytes ++ [c]) = crc8Step (crc8 bytes) c :=
  List.foldl_concat crc8Step Config.crcInit c bytes

end Sys2Proof.Machine

namespace Sys2Proof.Spec

open Sys2Proof.Machine

/-- Settles O1: CRC8_STEP depends on `acc ^ b` alone, and the table holds its value for each. -/
theorem crc8StepAnswersTheTableEntry : Obligations.Crc8StepAnswersTheTableEntry := by
  unfold Obligations.Crc8StepAnswersTheTableEntry
  intro acc b s
  constructor
  · rw [exec_eq_next_perform, perform_crc8Step, crc8Step_eq_crcEntry, answer]
  · rw [crc8Step_eq_crcEntry, BitVec.zero_xor]

/-- Settles O2: each step of the fold is a look-up, and the step on a zero byte keeps a zero accumulator. -/
theorem crc8FoldsTheStepFromZero : Obligations.Crc8FoldsTheStepFromZero := by
  unfold Obligations.Crc8FoldsTheStepFromZero
  intro bytes s
  constructor
  · rw [exec_eq_next_perform, perform_crc8, crc8_eq_foldl_crcEntry, answer]
  · exact crc8_zero_cons bytes

/-- Settles O3: the last byte's step starts from the CRC8 of the bytes before it, and gives zero on that byte alone. -/
theorem crc8ResidueIsZeroExactlyForTheRightByte : Obligations.Crc8ResidueIsZeroExactlyForTheRightByte := by
  unfold Obligations.Crc8ResidueIsZeroExactlyForTheRightByte
  intro bytes c
  rw [crc8_concat, crc8Step_eq_zero_iff]

end Sys2Proof.Spec

/-! # Proofs for 41_unpacker

A word put together bit by bit, the two bit streams as bits of one integer (O4, O5), PACK as the inverse of UNPACK
(O6), and the microsecond mapping (O7). -/

namespace Sys2Proof.Machine

theorem perform_unpack (p : List Byte) (s : State) : perform (.unpack p) s = answer (unpackResponse p) s := rfl

theorem perform_usMap (raw : Raw) (s : State) : perform (.usMap raw) s = answer (.micros (usMap raw)) s := rfl

theorem unpack_of_lt {p : List Byte} (h : p.length < 22) : unpack p = .error .insufficientData := if_pos h

theorem unpack_of_le {p : List Byte} (h : 22 ≤ p.length) : unpack p = .ok (Vector.ofFn fun k => lane p k.val) :=
  if_neg (Nat.not_lt.mpr h)

theorem unpackResponse_of_lt {p : List Byte} (h : p.length < 22) : unpackResponse p = .error .insufficientData := by
  rw [unpackResponse, unpack_of_lt h]

theorem unpackResponse_of_le {p : List Byte} (h : 22 ≤ p.length) :
    unpackResponse p = .lanes (Vector.ofFn fun k => lane p k.val) := by
  rw [unpackResponse, unpack_of_le h]

/-! ### A word ORed together bit by bit -/

/-- The `w`-bit word with bits `f 0`, …, `f (n - 1)` from bit 0 up, ORed in one at a time as `lane` and `packByte`
do it (41_unpacker R130). -/
def orBits (w : Nat) (f : Nat → Bool) (n : Nat) : BitVec w :=
  (List.range n).foldl (fun v j => v ||| ((BitVec.ofBool (f j)).setWidth w <<< j)) 0

theorem lane_eq_orBits (p : List Byte) (k : Nat) : lane p k = orBits 11 (fun j => streamBit p (11 * k + j)) 11 := rfl

theorem packByte_eq_orBits (v : Vector Raw 16) (n : Nat) :
    packByte v n = orBits 8 (fun j => packBit v (8 * n + j)) 8 := rfl

theorem orBits_succ (w : Nat) (f : Nat → Bool) (n : Nat) :
    orBits w f (n + 1) = orBits w f n ||| ((BitVec.ofBool (f n)).setWidth w <<< n) := by
  rw [orBits, List.range_succ, List.foldl_append]
  rfl

/-- A single bit shifted to place `n` stands at place `n` alone. -/
theorem shiftLeft_ofBool_getLsbD {w j : Nat} (hj : j < w) (b : Bool) (n : Nat) :
    ((BitVec.ofBool b).setWidth w <<< n).getLsbD j = (decide (j = n) && b) := by
  rw [BitVec.getLsbD_shiftLeft, BitVec.getLsbD_setWidth, BitVec.getLsbD_ofBool]
  grind

theorem orBits_getLsbD {w j : Nat} (hj : j < w) (f : Nat → Bool) (n : Nat) :
    (orBits w f n).getLsbD j = (decide (j < n) && f j) := by
  induction n with
  | zero => simp [orBits]
  | succ n ih =>
    rw [orBits_succ, BitVec.getLsbD_or, ih, shiftLeft_ofBool_getLsbD hj]
    grind

/-- Bit `j` of field `k` is stream bit `11k + j` (41_unpacker R130). -/
theorem lane_getLsbD (p : List Byte) (k : Nat) {j : Nat} (hj : j < 11) :
    (lane p k).getLsbD j = streamBit p (11 * k + j) := by
  rw [lane_eq_orBits, orBits_getLsbD hj, decide_eq_true hj, Bool.true_and]

theorem packByte_getLsbD (v : Vector Raw 16) (n : Nat) {j : Nat} (hj : j < 8) :
    (packByte v n).getLsbD j = packBit v (8 * n + j) := by
  rw [packByte_eq_orBits, orBits_getLsbD hj, decide_eq_true hj, Bool.true_and]

/-! ### The stream as one integer -/

theorem littleEndian_eq_packBytes (p : List Byte) : Spec.littleEndian p = packBytes p := by
  induction p with
  | nil => rfl
  | cons b rest ih => rw [Spec.littleEndian, packBytes, ih]

/-- Stream bit `i` is bit `i` of the little-endian integer (41_unpacker R131, R132). -/
theorem littleEndian_testBit (p : List Byte) (i : Nat) : (Spec.littleEndian p).testBit i = streamBit p i := by
  have hmod : i % 8 < 8 := Nat.mod_lt i (by decide)
  have hplace : i % 8 + 8 * (i / 8) = i := Nat.mod_add_div i 8
  have hbyte : packBytes p / 2 ^ (8 * (i / 8)) % 2 ^ 8 = (p.getD (i / 8) 0).toNat :=
    Nat.pow_mul 2 8 (i / 8) ▸ packBytes_div_mod p (i / 8)
  calc (Spec.littleEndian p).testBit i
    _ = (packBytes p).testBit (i % 8 + 8 * (i / 8)) := by rw [littleEndian_eq_packBytes, hplace]
    _ = (packBytes p / 2 ^ (8 * (i / 8)) % 2 ^ 8).testBit (i % 8) := by
      rw [Nat.testBit_mod_two_pow, decide_eq_true hmod, Bool.true_and, ← Nat.testBit_div_two_pow]
    _ = streamBit p i := by rw [hbyte, streamBit, BitVec.testBit_toNat]

/-- Field `k` is the integer shifted right by `11k` and cut to eleven bits (41_unpacker R132). -/
theorem lane_toNat (p : List Byte) (k : Nat) : (lane p k).toNat = (Spec.littleEndian p >>> (11 * k)) &&& 0x7FF := by
  have hbits : lane p k = BitVec.ofNat 11 (Spec.littleEndian p >>> (11 * k)) := by
    refine BitVec.eq_of_getLsbD_eq fun j hj => ?_
    rw [lane_getLsbD p k hj, BitVec.getLsbD_ofNat, Nat.testBit_shiftRight, littleEndian_testBit, decide_eq_true hj,
      Bool.true_and]
  rw [hbits, BitVec.toNat_ofNat]
  exact (Nat.and_two_pow_sub_one_eq_mod _ 11).symm

theorem streamBit_take {p : List Byte} {n i : Nat} (h : i < 8 * n) : streamBit (p.take n) i = streamBit p i := by
  have hbyte : i / 8 < n := by omega
  simp only [streamBit, List.getD_eq_getElem?_getD, List.getElem?_take, if_pos hbyte]

/-- The sixteen fields come from the first 22 bytes (41_unpacker R130). -/
theorem lane_take (p : List Byte) {k : Nat} (hk : k < 16) : lane (p.take 22) k = lane p k := by
  refine BitVec.eq_of_getLsbD_eq fun j hj => ?_
  rw [lane_getLsbD _ _ hj, lane_getLsbD _ _ hj, streamBit_take (by omega)]

/-! ### PACK -/

@[simp] theorem length_pack (v : Vector Raw 16) : (pack v).length = 22 := by
  rw [pack, List.length_map, List.length_range, Config.chBytes]

/-- Behind its 16 · 11 = 176 bits the packed stream is zero. -/
theorem packBit_of_le {v : Vector Raw 16} {i : Nat} (h : 176 ≤ i) : packBit v i = false := by
  have hfield : v.toList.length ≤ i / 11 := by rw [Vector.length_toList]; omega
  rw [packBit, List.getD_eq_default _ _ hfield]
  exact BitVec.getLsbD_zero

theorem packBit_field (v : Vector Raw 16) {k j : Nat} (hk : k < 16) (hj : j < 11) :
    packBit v (11 * k + j) = v[k].getLsbD j := by
  have hdiv : (11 * k + j) / 11 = k := by omega
  have hmod : (11 * k + j) % 11 = j := by omega
  rw [packBit, hdiv, hmod, toList_getD_of_lt v hk]

/-- The bit stream of the 22 bytes is the bit stream of the fields (41_unpacker R136). -/
theorem streamBit_pack (v : Vector Raw 16) (i : Nat) : streamBit (pack v) i = packBit v i := by
  obtain hi | hi := Nat.lt_or_ge i 176
  · have hbyte : (pack v).getD (i / 8) 0 = packByte v (i / 8) := by
      have hrange : i / 8 < Config.chBytes := by rw [Config.chBytes]; omega
      simp [pack, List.getD_eq_getElem?_getD, hrange]
    rw [streamBit, hbyte, packByte_getLsbD v _ (Nat.mod_lt i (by decide)), Nat.div_add_mod]
  · have hend : (pack v).length ≤ i / 8 := by rw [length_pack]; omega
    rw [streamBit, List.getD_eq_default _ _ hend, packBit_of_le hi]
    exact BitVec.getLsbD_zero

/-- The first `n` terms of `Σ_k v[k] << (11k)` (41_unpacker R136). -/
def partialSum (v : Vector Raw 16) (n : Nat) : Nat :=
  ((List.range n).map fun k => (v.toList.getD k 0).toNat * 2 ^ (11 * k)).sum

theorem packedSum_eq_partialSum (v : Vector Raw 16) : Spec.packedSum v = partialSum v 16 := rfl

theorem partialSum_succ (v : Vector Raw 16) (n : Nat) :
    partialSum v (n + 1) = 2 ^ (11 * n) * (v.toList.getD n 0).toNat + partialSum v n := by
  rw [partialSum, List.range_succ, List.map_append, List.sum_append, List.map_singleton, List.sum_singleton,
    Nat.add_comm, Nat.mul_comm, partialSum]

theorem partialSum_lt (v : Vector Raw 16) (n : Nat) : partialSum v n < 2 ^ (11 * n) := by
  induction n with
  | zero => exact Nat.one_pos
  | succ n ih =>
    have hfield := (v.toList.getD n 0).isLt
    calc partialSum v (n + 1)
      _ < 2 ^ (11 * n) * ((v.toList.getD n 0).toNat + 1) := by rw [partialSum_succ, Nat.mul_succ]; omega
      _ ≤ 2 ^ (11 * n) * 2 ^ 11 := Nat.mul_le_mul_left _ hfield
      _ = 2 ^ (11 * (n + 1)) := by rw [← Nat.pow_add, Nat.mul_succ]

/-- The terms of the sum do not overlap, so its bits are those of the fields (41_unpacker R136). -/
theorem partialSum_testBit (v : Vector Raw 16) (n i : Nat) :
    (partialSum v n).testBit i = (decide (i < 11 * n) && packBit v i) := by
  induction n with
  | zero => simp [partialSum]
  | succ n ih =>
    rw [partialSum_succ, Nat.testBit_two_pow_mul_add _ (partialSum_lt v n), BitVec.testBit_toNat, ih]
    split
    case isTrue hlow =>
      rw [decide_eq_true hlow, decide_eq_true (show i < 11 * (n + 1) by omega)]
    case isFalse hhigh =>
      obtain hfield | hbeyond := Nat.lt_or_ge i (11 * (n + 1))
      · have hdiv : i / 11 = n := by omega
        have hmod : i % 11 = i - 11 * n := by omega
        rw [decide_eq_true hfield, Bool.true_and, packBit, hdiv, hmod]
      · rw [decide_eq_false (Nat.not_lt.mpr hbeyond), Bool.false_and, BitVec.getLsbD_of_ge _ _ (by omega)]

theorem packedSum_testBit (v : Vector Raw 16) (i : Nat) : (Spec.packedSum v).testBit i = packBit v i := by
  rw [packedSum_eq_partialSum, partialSum_testBit]
  obtain hi | hi := Nat.lt_or_ge i 176
  · rw [decide_eq_true hi, Bool.true_and]
  · rw [packBit_of_le hi, Bool.and_false]

theorem littleEndian_pack (v : Vector Raw 16) : Spec.littleEndian (pack v) = Spec.packedSum v :=
  Nat.eq_of_testBit_eq fun i => by rw [littleEndian_testBit, streamBit_pack, packedSum_testBit]

theorem lane_pack (v : Vector Raw 16) {k : Nat} (hk : k < 16) : lane (pack v) k = v[k] := by
  refine BitVec.eq_of_getLsbD_eq fun j hj => ?_
  rw [lane_getLsbD _ _ hj, streamBit_pack, packBit_field v hk hj]

theorem unpack_pack (v : Vector Raw 16) : unpack (pack v) = .ok v := by
  rw [unpack_of_le (length_pack v).ge]
  refine congrArg Except.ok (Vector.ext fun k hk => ?_)
  rw [Vector.getElem_ofFn, lane_pack v hk]

/-! ### The microsecond mapping -/

theorem usMap_eq (raw : Raw) : usMap raw = 988 + raw.toNat * 1024 / 2047 := rfl

theorem usMap_ofNat {n : Nat} (hn : n ≤ 2047) : usMap (BitVec.ofNat 11 n) = 988 + n * 1024 / 2047 := by
  rw [usMap_eq, BitVec.toNat_ofNat, Nat.mod_eq_of_lt (by omega)]

/-- The scale 1024/2047 is between 0 and 1, so one more in raw is at most one more in microseconds (41_unpacker
R134). -/
theorem usMap_neighbour {n : Nat} (hn : n < 2047) :
    usMap (BitVec.ofNat 11 (n + 1)) = usMap (BitVec.ofNat 11 n) ∨
      usMap (BitVec.ofNat 11 (n + 1)) = usMap (BitVec.ofNat 11 n) + 1 := by
  rw [usMap_ofNat (by omega), usMap_ofNat (by omega)]
  omega

/-- Where neighbours differ by 0 or 1, each of the first `n` pairs is equal or adds 1 to the function. -/
theorem length_filter_neighbours_eq {f : Nat → Nat} {n : Nat}
    (h : ∀ k, k < n → f (k + 1) = f k ∨ f (k + 1) = f k + 1) :
    ((List.range n).filter fun k => f k == f (k + 1)).length + f n = n + f 0 := by
  induction n with
  | zero => rw [List.range_zero, List.filter_nil, List.length_nil]
  | succ n ih =>
    have hn := ih fun k hk => h k (Nat.lt_succ_of_lt hk)
    rw [List.range_succ, List.filter_append, List.length_append]
    obtain heq | hstep := h n n.lt_succ_self
    · rw [List.filter_singleton, heq, beq_self_eq_true, cond_true, List.length_singleton]
      omega
    · have hne : (f n == f (n + 1)) = false := by rw [hstep]; simp
      rw [List.filter_singleton, hne, cond_false, List.length_nil]
      omega

/-- Among the first `n` pairs of neighbours, those that are not equal take US_MAP up from 988. -/
theorem usMap_equal_neighbours {n : Nat} (hn : n ≤ 2047) :
    ((List.range n).filter fun k => usMap (BitVec.ofNat 11 k) == usMap (BitVec.ofNat 11 (k + 1))).length +
      usMap (BitVec.ofNat 11 n) = n + 988 :=
  length_filter_neighbours_eq (f := fun k => usMap (BitVec.ofNat 11 k)) fun _ hk =>
    usMap_neighbour (Nat.lt_of_lt_of_le hk hn)

end Sys2Proof.Machine

namespace Sys2Proof.Spec

open Sys2Proof.Machine

/-- Settles O4: the fields are ORed together from the stream bits, each at its place. -/
theorem unpackAnswersTheStreamBits : Obligations.UnpackAnswersTheStreamBits := by
  unfold Obligations.UnpackAnswersTheStreamBits
  intro p s
  rw [exec_eq_next_perform, perform_unpack]
  refine ⟨fun hshort => ⟨if_pos hshort, ?error⟩, fun hfull => ⟨Vector.ofFn fun k => lane p k.val, ?lanes, ?bits⟩⟩
  case error => rw [unpackResponse_of_lt hshort, answer]
  case lanes => rw [unpackResponse_of_le hfull, answer]
  case bits =>
    intro k hk j hj
    rw [Vector.getElem_ofFn, lane_getLsbD p k hj, streamBit]

/-- Settles O5: stream bit `i` is bit `i` of the integer, and the sixteen fields use the first 22 bytes alone. -/
theorem unpackIsTheIntegerShift : Obligations.UnpackIsTheIntegerShift := by
  unfold Obligations.UnpackIsTheIntegerShift
  intro p hp
  refine ⟨_, unpack_of_le hp, fun k hk => ?_⟩
  rw [Vector.getElem_ofFn, ← lane_take p hk, lane_toNat]

/-- Settles O6: the packed bytes, the sum and the fields have the same bit stream. -/
theorem unpackInvertsPack : Obligations.UnpackInvertsPack := by
  unfold Obligations.UnpackInvertsPack
  exact fun v => ⟨length_pack v, littleEndian_pack v, unpack_pack v⟩

/-- Settles O7: the mapping climbs from 988 to 2012 by 1024 steps of 1, so the other 1023 of the 2047 pairs
are equal. -/
theorem usMapScalesAndTruncates : Obligations.UsMapScalesAndTruncates := by
  unfold Obligations.UsMapScalesAndTruncates
  refine ⟨fun v s => ⟨?answer, Nat.le_add_right _ _, ?upper⟩, fun n hn => usMap_neighbour hn, ?count⟩
  case answer => rw [exec_eq_next_perform, perform_usMap, usMap_eq, answer]
  case upper =>
    have := v.isLt
    omega
  case count =>
    have hlast : usMap (BitVec.ofNat 11 2047) = 2012 := usMap_ofNat (by decide)
    have hcount := usMap_equal_neighbours (Nat.le_refl 2047)
    rw [hlast] at hcount
    exact Nat.add_right_cancel (m := 2012) hcount

end Sys2Proof.Spec

/-! # Proofs for 42_synchronizer

PUSH and the byte source (O49, O55), which engine step is enabled and which is held (O22, O28, O29, O33), what each CRSF
step does (O23 to O26), runs of engine turns (O31, O32), and feeding bytes in chunks (O35). -/

namespace Sys2Proof.Machine

/-! ### PUSH -/

theorem pushByte_of_quiescent {s : State} (b : Byte) (hq : quiescent s = true) :
    pushByte b s = { s with buf := s.buf ++ [b] } := if_pos hq

theorem pushByte_of_not_quiescent {s : State} (b : Byte) (hq : quiescent s = false) : pushByte b s = s :=
  if_neg (Bool.eq_false_iff.mp hq)

@[simp] theorem quiescent_endTurn (s : State) : quiescent (endTurn s) = quiescent s := inReady_endTurn s

/-! ### Which engine step is enabled, and which is held -/

theorem whenSelected_of_ne {c : StepClass} {s : State} (h : classOf s ≠ c) (e : State) : whenSelected c s e = s :=
  if_neg fun hc => h hc.1

theorem exec_of_selected {c : StepClass} {i : Instr} {s e : State} (hp : perform i s = whenSelected c s e)
    (hc : classOf s = c) (hh : held s = false) : exec i s = .next e := by
  rw [exec_eq_next_perform, hp, whenSelected_of_selected hc hh]

/-- A step of class `c` is the one the state's class selects, or does nothing. -/
theorem selected_or_idle {c : StepClass} {i : Instr} {s e : State} (hi : decodeStep c = .ok i)
    (hp : perform i s = whenSelected c s e) :
    (decodeStep (classOf s) = .ok i ∧ held s = false) ∨ perform i s = s := by
  rcases whenSelected_cases c s e with ⟨hc, hh, -⟩ | ⟨-, he⟩
  · exact .inl ⟨hc ▸ hi, hh⟩
  · exact .inr (hp.trans he)

theorem engineStep_selected_or_idle {i : Instr} (hi : i ∈ Spec.engineSteps) (s : State) :
    (decodeStep (classOf s) = .ok i ∧ held s = false) ∨ perform i s = s := by
  simp only [Spec.engineSteps, List.mem_cons, List.not_mem_nil, or_false] at hi
  rcases hi with rfl | rfl | rfl | rfl | rfl | rfl
  · exact selected_or_idle rfl (perform_drop s)
  · exact selected_or_idle rfl (perform_lenReject s)
  · exact selected_or_idle rfl (perform_crcReject s)
  · exact selected_or_idle rfl (perform_emit s)
  · exact selected_or_idle rfl (perform_sbusAccept s)
  · exact selected_or_idle rfl (perform_sbusReject s)

/-- Every engine step but DROP emits (42_synchronizer R150). -/
theorem emits_of_decodeStep {c : StepClass} {i : Instr} (h : decodeStep c = .ok i) (hi : i ≠ .drop) :
    emits c = true := by
  cases c
  case notSync => exact absurd (Except.ok.inj h).symm hi
  case badLen | crcOk | crcBad | sbusOk | sbusBad => rfl
  case waitSync | waitLen | waitBody => nomatch h

theorem not_isWaiting_of_emits {c : StepClass} (h : emits c = true) : isWaiting c = false := by
  cases c
  case badLen | crcOk | crcBad | sbusOk | sbusBad => rfl
  case waitSync | waitLen | waitBody | notSync => nomatch h

/-- The hold's condition in the terms of the rule (42_synchronizer R150). -/
theorem evqBlocks_eq_false_iff (s : State) : evqBlocks s = false ↔ Spec.roomForEvent s := by
  cases h : s.ctrl.evEn <;> simp [evqBlocks, Spec.roomForEvent, h]

theorem not_held_of_room {s : State} (h : Spec.roomForEvent s) : held s = false := by
  rw [held, (evqBlocks_eq_false_iff s).mpr h, Bool.and_false]

theorem evqBlocks_of_full {s : State} (hev : s.ctrl.evEn = true) (hfull : s.evq.length = s.params.evDepth) :
    evqBlocks s = true := by
  simp [evqBlocks, hev, hfull]

theorem sbusEnabled_of_sbus_class {s : State} (h : classOf s = .sbusOk ∨ classOf s = .sbusBad) :
    Spec.sbusEnabled s := by
  have hc := classCondition_classify (sbusOn s) s.buf
  rw [← sbusOn_iff]
  rcases h with h | h <;> rw [show classify (sbusOn s) s.buf = _ from h] at hc <;> exact hc.1

/-- In a quiescent state an operation but PUSH and RESET has no effect on the buffer (42_synchronizer R154). -/
theorem Effect.buf_eq_or_pushed {s t : State} {i : Instr} (h : Effect s i t) (hq : quiescent s = true)
    (hr : i ≠ .reset) : t.buf = s.buf ∨ ∃ b, i = .push b ∧ t.buf = s.buf ++ [b] := by
  cases h with
  | idle | answered => exact .inl rfl
  | decoded | wrote | popped => exact .inl (by simp)
  | pushed b => exact .inr ⟨b, rfl, by rw [pushByte_of_quiescent b hq]⟩
  | dropped hc | accepted hc | acceptedSbus hc => rw [quiescent, hc] at hq; nomatch hq
  | rejected _ hc => exact absurd (hq.symm.trans (not_isWaiting_of_emits hc)) (by decide)
  | reset => exact absurd rfl hr

end Sys2Proof.Machine

namespace Sys2Proof.Spec

open Sys2Proof.Machine

/-- Settles O49: `in_ready` is quiescence, and a buffer that waits has at most 63 bytes. -/
theorem pushAppendsExactlyWhenReady : Obligations.PushAppendsExactlyWhenReady := by
  unfold Obligations.PushAppendsExactlyWhenReady
  intro s b
  rw [exec_eq_next_perform, perform_push]
  refine ⟨fun hq => ⟨by rw [pushByte_of_quiescent b hq], ?_⟩, fun hq => by rw [pushByte_of_not_quiescent b hq]⟩
  exact Nat.succ_le_succ (length_le_of_isWaiting hq)

/-- Settles O55: the turn ends before the PUSH and leaves quiescence as it was, so the source gives up its byte exactly
when PUSH takes it. -/
theorem refusedBytesStayWithTheSource : Obligations.RefusedBytesStayWithTheSource := by
  unfold Obligations.RefusedBytesStayWithTheSource
  intro s turns b bytes hs hb
  have ha := agentOf_of_sched_cons hs
  rw [step_of_byteSource_byte ha hb, exec_eq_next_perform, perform_push]
  refine ⟨fun hq => ?_, fun hq => ?_⟩
  · rw [pushByte_of_quiescent b ((quiescent_endTurn s).trans hq), endTurn_of_byteSource ha, if_pos hq, hs, hb,
      List.tail_cons, List.tail_cons]
  · rw [pushByte_of_not_quiescent b ((quiescent_endTurn s).trans hq), endTurn_of_byteSource ha,
      if_neg (Bool.eq_false_iff.mp hq), hs, List.tail_cons]

/-- Settles O22: a step that changes the state is the one the class of the buffer selects. -/
theorem atMostOneEngineStepIsEnabled : Obligations.AtMostOneEngineStepIsEnabled := by
  unfold Obligations.AtMostOneEngineStepIsEnabled
  intro s t u i j hi hj ht hts hu hus
  obtain rfl := Host.Outcome.next.inj ((exec_eq_next_perform i s).symm.trans ht)
  obtain rfl := Host.Outcome.next.inj ((exec_eq_next_perform j s).symm.trans hu)
  obtain ⟨hsel, -⟩ := (engineStep_selected_or_idle hi s).resolve_right hts
  obtain ⟨hsel', -⟩ := (engineStep_selected_or_idle hj s).resolve_right hus
  exact Except.ok.inj (hsel.symm.trans hsel')

/-- Settles O28: the S.Bus classes need S.Bus enabled, and `0x0F` is then a sync byte too. -/
theorem sbusStepsExistOnlyWhenEnabled : Obligations.SbusStepsExistOnlyWhenEnabled := by
  unfold Obligations.SbusStepsExistOnlyWhenEnabled
  intro s hoff
  refine ⟨?accept, ?reject, fun hhead => ?ordinary⟩
  case accept =>
    rw [exec_eq_next_perform, perform_sbusAccept,
      whenSelected_of_ne fun hc => hoff (sbusEnabled_of_sbus_class (.inl hc))]
  case reject =>
    rw [exec_eq_next_perform, perform_sbusReject,
      whenSelected_of_ne fun hc => hoff (sbusEnabled_of_sbus_class (.inr hc))]
  case ordinary =>
    obtain ⟨rest, hbuf⟩ := List.head?_eq_some_iff.mp hhead
    rw [classOf, hbuf]
    exact classify_of_notSync rest (by decide) fun h => hoff ((sbusOn_iff s).mp h.2)

/-- Settles O29: a selected emitting step is held; a POP makes room for an event, the WRITE turns events off, and RESET
leaves no candidate to emit for. -/
theorem fullQueueHoldsTheEmittingSteps : Obligations.FullQueueHoldsTheEmittingSteps := by
  unfold Obligations.FullQueueHoldsTheEmittingSteps
  intro s hev hfull hdepth
  have hheld : emits (classOf s) = true → held s = true := fun hc => by
    rw [held, hc, evqBlocks_of_full hev hfull, Bool.and_self]
  refine ⟨fun i hi => ?steps, fun hc => ⟨hheld hc, fun b => ?push⟩, fun t ht => ?pop, fun d t hd ht => ?write,
    fun t ht => ?reset, not_held_of_notSync⟩
  case steps =>
    rw [exec_eq_next_perform]
    rcases engineStep_selected_or_idle (List.mem_cons_of_mem _ hi) s with ⟨hsel, hh⟩ | hidle
    · have hne : i ≠ .drop := by rintro rfl; simp at hi
      exact absurd ((hheld (emits_of_decodeStep hsel hne)).symm.trans hh) (by decide)
    · rw [hidle]
  case push => rw [exec_eq_next_perform, perform_push, pushByte_of_not_quiescent b (not_isWaiting_of_emits hc)]
  case pop =>
    obtain rfl : popEvent s = t := Host.Outcome.next.inj ht
    refine not_held_of_room (.inr ?_)
    rw [popEvent_evq, popEvent_params, List.length_tail]
    omega
  case write =>
    obtain rfl : writeWord 0 d s = t := Host.Outcome.next.inj ht
    exact not_held_of_room (.inl hd)
  case reset =>
    obtain rfl : resetBlock s = t := Host.Outcome.next.inj ht
    exact not_held_of_room (.inr hdepth)

/-- Settles O33: in a quiescent state no effect consumes a byte, and PUSH appends one. -/
theorem noOperationDiscardsAPendingCandidate : Obligations.NoOperationDiscardsAPendingCandidate := by
  unfold Obligations.NoOperationDiscardsAPendingCandidate
  exact fun i s t hq hr h => (effect_of_exec h).buf_eq_or_pushed hq hr

end Sys2Proof.Spec

namespace Sys2Proof.Machine

/-! ### Consuming and rejecting -/

/-- `sat_add` in the terms of the statements (00_scope R15). -/
theorem satAdd_toNat_eq_sat (c : Word) (n : Nat) : (satAdd c n).toNat = Spec.sat (c.toNat + n) := satAdd_toNat c n

theorem satInc_toNat_eq_sat (c : Word) : (satInc c).toNat = Spec.sat (c.toNat + 1) := satInc_toNat c

/-- Saturating twice is saturating once. -/
theorem satAdd_satAdd (c : Word) (m n : Nat) : satAdd (satAdd c m) n = satAdd c (m + n) := by
  apply BitVec.eq_of_toNat_eq
  simp only [satAdd_toNat]
  omega

theorem satAdd_zero (c : Word) : satAdd c 0 = c := by
  apply BitVec.eq_of_toNat_eq
  have := c.isLt
  rw [satAdd_toNat]
  omega

theorem consumeBytes_zero (s : State) : consumeBytes 0 s = s := by
  rw [consumeBytes, satAdd_zero]
  rfl

theorem consumeBytes_consumeBytes (m n : Nat) (s : State) :
    consumeBytes n (consumeBytes m s) = consumeBytes (m + n) s := by
  simp only [consumeBytes, memConsume, List.drop_drop, satAdd_satAdd]

theorem consumeBytes_eq {s : State} {front rest : List Byte} (hbuf : s.buf = front ++ rest) :
    consumeBytes front.length s =
      { s with buf := rest, bytesConsumed := satAdd s.bytesConsumed front.length } := by
  rw [consumeBytes, memConsume, hbuf, List.drop_left]

/-- All that a rejection does (42_synchronizer R145, R146, R149). -/
theorem rejectCandidate_eq {s : State} {b : Byte} {rest : List Byte} (hbuf : s.buf = b :: rest) (d : Dialect)
    (r : Reason) :
    rejectCandidate d r s = { s with
      buf := rest
      evq := Spec.queued s (.rejected d r)
      framesRejected := satInc s.framesRejected
      bytesConsumed := satAdd s.bytesConsumed 1 } := by
  unfold Spec.queued
  cases h : s.ctrl.evEn <;>
    simp [rejectCandidate, consumeBytes, memConsume, emitEvent, countRejected, h, hbuf]

/-! ### The class of a buffer written out -/

theorem classOf_of_notSync {s : State} {b : Byte} {rest : List Byte} (hbuf : s.buf = b :: rest) (hcrsf : b ≠ 0xC8#8)
    (hsbus : ¬(b = 0x0F#8 ∧ Spec.sbusEnabled s)) : classOf s = .notSync := by
  rw [← sbusOn_iff] at hsbus
  rw [classOf, hbuf, classify_of_notSync rest hcrsf hsbus]

theorem classOf_of_badLen {s : State} {L : Byte} {rest : List Byte} (hbuf : s.buf = 0xC8#8 :: L :: rest)
    (hL : L.toNat < 2 ∨ 62 < L.toNat) : classOf s = .badLen := by
  rw [classOf, hbuf, classify_of_badLen _ rest hL]

theorem classOf_of_crcBad {s : State} {L c : Byte} {body rest : List Byte}
    (hbuf : s.buf = 0xC8#8 :: L :: (body ++ c :: rest)) (hmin : 2 ≤ L.toNat) (hmax : L.toNat ≤ 62)
    (hlen : body.length + 1 = L.toNat) (hcrc : c ≠ crc8 (L :: body)) : classOf s = .crcBad := by
  rw [classOf, hbuf, classify_candidate _ rest hmin hmax hlen, if_neg (Ne.symm hcrc)]

section
variable {s : State} {ty : Byte} {payload rest : List Byte}

/-- A valid frame at the front, as a complete candidate. -/
theorem frame_append (ty : Byte) (payload rest : List Byte) :
    Spec.frame ty payload ++ rest = 0xC8#8 :: BitVec.ofNat 8 (payload.length + 2) ::
      ((ty :: payload) ++ crc8 (BitVec.ofNat 8 (payload.length + 2) :: ty :: payload) :: rest) := by
  simp [Spec.frame]

theorem length_frame (ty : Byte) (payload : List Byte) : (Spec.frame ty payload).length = payload.length + 4 := by
  simp [Spec.frame]

theorem candidateType_of_frame (hbuf : s.buf = Spec.frame ty payload ++ rest) : candidateType s = ty := by
  rw [candidateType, hbuf, frame_append]
  rfl

variable (hp : payload.length ≤ 60) (hbuf : s.buf = Spec.frame ty payload ++ rest)
include hp hbuf

theorem candidateLength_of_frame : candidateLength s = payload.length + 2 := by
  rw [candidateLength, hbuf, frame_append, byteAt_cons_one, toNat_lengthByte hp]

theorem candidatePayload_of_frame : candidatePayload s = payload := by
  rw [candidatePayload, candidateLength_of_frame hp hbuf, hbuf, frame_append]
  simp [memRead]

theorem classOf_of_frame : classOf s = .crcOk := by
  have hL := toNat_lengthByte hp
  rw [classOf, hbuf, frame_append, classify_candidate _ rest (by omega) (by omega) (by rw [hL, List.length_cons]),
    if_pos rfl]

end

/-! ### The decoder inside EMIT -/

theorem eq_of_known {t : Byte} (h : knownTypes.contains t = true) :
    t = 0x02#8 ∨ t = 0x07#8 ∨ t = 0x08#8 ∨ t = 0x14#8 ∨ t = 0x16#8 ∨ t = 0x1E#8 ∨ t = 0x21#8 := by
  simpa only [knownTypes, List.contains_iff_mem, List.mem_cons, List.not_mem_nil, or_false] using h

theorem decodeEffect_of_unknown {t : Byte} (p : List Byte) (s : State) (h : knownTypes.contains t = false) :
    decodeEffect t p s = s := by
  simp only [knownTypes, List.contains_cons, List.contains_nil, Bool.or_false, Bool.or_eq_false_iff,
    beq_eq_false_iff_ne] at h
  obtain ⟨hgps, hvario, hbattery, hlinkstat, hchannels, hattitude, hflightmode⟩ := h
  simp only [decodeEffect, if_neg, *, not_false_eq_true, unknownEffect]

/-- DECODE is the effect of the operation that the type byte selects (43_decoders R170). -/
theorem perform_decodeType (t : Byte) (p : List Byte) (s : State) :
    perform (decodeType t p) s = decodeEffect t p s := by
  by_cases h : knownTypes.contains t = true
  · rcases eq_of_known h with rfl | rfl | rfl | rfl | rfl | rfl | rfl <;> rfl
  · have h := Bool.eq_false_iff.mpr h
    rw [decodeType_of_unknown p h, perform_decUnknown, decodeEffect_of_unknown p s h]

theorem signals_decodeType (t : Byte) (p : List Byte) (s : State) :
    signals (decodeType t p) s = decoderSignal t p := by
  by_cases h : knownTypes.contains t = true
  · rcases eq_of_known h with rfl | rfl | rfl | rfl | rfl | rfl | rfl <;> rfl
  · have h := Bool.eq_false_iff.mpr h
    rw [decodeType_of_unknown p h, decoderSignal, h]
    rfl

/-- A known type byte's DECODE is a length-checked write (43_decoders R170, R171). -/
theorem decodeEffect_eq_lengthChecked {t : Byte} (p : List Byte) (h : knownTypes.contains t = true) :
    ∃ m w, ∀ s, decodeEffect t p s = lengthChecked m p w s := by
  rcases eq_of_known h with rfl | rfl | rfl | rfl | rfl | rfl | rfl <;> exact ⟨_, _, fun _ => rfl⟩

theorem lengthChecked_eq (m : Nat) (p : List Byte) (w : Results → Results) (s : State) :
    lengthChecked m p w s = { s with
      payloadTooShort := if p.length < m then satInc s.payloadTooShort else s.payloadTooShort
      results := if p.length < m then s.results else w s.results } := by
  unfold lengthChecked
  split <;> rfl

/-- DECODE writes `PAYLOAD_TOO_SHORT` and the register bank, each from its own value, and sees nothing else of the
state (43_decoders R170, R171). -/
theorem decodeEffect_eq (t : Byte) (p : List Byte) :
    ∃ (f : Word → Word) (w : Results → Results), ∀ s, decodeEffect t p s =
      { s with payloadTooShort := f s.payloadTooShort, results := w s.results } := by
  by_cases h : knownTypes.contains t = true
  · obtain ⟨m, w, hcheck⟩ := decodeEffect_eq_lengthChecked p h
    exact ⟨fun c => if p.length < m then satInc c else c, fun r => if p.length < m then r else w r,
      fun s => (hcheck s).trans (lengthChecked_eq m p w s)⟩
  · exact ⟨id, id, fun s => decodeEffect_of_unknown p s (Bool.eq_false_iff.mpr h)⟩

/-- All that EMIT does on a valid frame at the front (42_synchronizer R147). -/
theorem acceptFrame_eq {s : State} {ty : Byte} {payload rest : List Byte} (hp : payload.length ≤ 60)
    (hbuf : s.buf = Spec.frame ty payload ++ rest) :
    acceptFrame s = { decodeEffect ty payload s with
      buf := rest
      evq := Spec.queued s (crsfAccepted ty payload)
      framesValidated := satInc s.framesValidated
      bytesConsumed := satAdd s.bytesConsumed (payload.length + 4) } := by
  obtain ⟨f, w, hdecode⟩ := decodeEffect_eq ty payload
  have hdrop : s.buf.drop (payload.length + 4) = rest := by
    rw [hbuf, List.drop_left' (length_frame ty payload)]
  rw [acceptFrame, candidateLength_of_frame hp hbuf, candidateType_of_frame hbuf, candidatePayload_of_frame hp hbuf,
    hdecode, hdecode]
  unfold Spec.queued
  cases h : s.ctrl.evEn <;> simp [consumeBytes, memConsume, emitEvent, countValidated, h, hdrop]

theorem padTo60_getElem (p : List Byte) {j : Nat} (hj : j < 60) : (padTo60 p)[j] = p.getD j 0#8 := by
  simp [padTo60]

end Sys2Proof.Machine

namespace Sys2Proof.Spec

open Sys2Proof.Machine

/-- Settles O23: such a byte has class NOT_SYNC, whose step is never held. -/
theorem dropConsumesOneNonSyncByte : Obligations.DropConsumesOneNonSyncByte := by
  unfold Obligations.DropConsumesOneNonSyncByte
  intro s b rest hbuf hcrsf hsbus
  have hc := classOf_of_notSync hbuf hcrsf hsbus
  exact ⟨consumeBytes 1 s, exec_of_selected (perform_drop s) hc (not_held_of_notSync hc),
    satAdd_toNat_eq_sat s.bytesConsumed 1, consumeBytes_eq (front := [b]) hbuf⟩

/-- Settles O24: the class is BAD_LEN, and a rejection is known field by field. -/
theorem lenRejectConsumesOnlyTheSyncByte : Obligations.LenRejectConsumesOnlyTheSyncByte := by
  unfold Obligations.LenRejectConsumesOnlyTheSyncByte
  intro s L rest hbuf hL hroom
  have hc := classOf_of_badLen hbuf hL
  have hh := not_held_of_room hroom
  have hexec := exec_of_selected (perform_lenReject s) hc hh
  rw [rejectCandidate_eq hbuf] at hexec
  exact ⟨if_pos ⟨hc, hh⟩, _, hexec, satInc_toNat_eq_sat s.framesRejected, satAdd_toNat_eq_sat s.bytesConsumed 1, rfl⟩

/-- Settles O25: the class is CRC_BAD, and a rejection is known field by field. -/
theorem crcRejectConsumesOnlyTheSyncByte : Obligations.CrcRejectConsumesOnlyTheSyncByte := by
  unfold Obligations.CrcRejectConsumesOnlyTheSyncByte
  intro s L c body rest hbuf hmin hmax hlen hcrc hroom
  have hc := classOf_of_crcBad hbuf hmin hmax hlen hcrc
  have hh := not_held_of_room hroom
  have hexec := exec_of_selected (perform_crcReject s) hc hh
  rw [rejectCandidate_eq hbuf] at hexec
  exact ⟨if_pos ⟨hc, hh⟩, _, hexec, satInc_toNat_eq_sat s.framesRejected, satAdd_toNat_eq_sat s.bytesConsumed 1, rfl⟩

/-- Settles O26: the class is CRC_OK, the candidate's fields are those of the frame, and DECODE neither sees nor changes
what EMIT counts, queues and consumes. -/
theorem emitDecodesCountsReportsAndConsumes : Obligations.EmitDecodesCountsReportsAndConsumes := by
  unfold Obligations.EmitDecodesCountsReportsAndConsumes
  intro s ty payload rest hp hbuf hroom
  have hc := classOf_of_frame hp hbuf
  have hh := not_held_of_room hroom
  have hexec := exec_of_selected (perform_emit s) hc hh
  rw [acceptFrame_eq hp hbuf] at hexec
  refine ⟨decodeEffect ty payload s, _, padTo60 payload, ?decoder, hexec, ?signal,
    fun j hj => padTo60_getElem payload hj, satInc_toNat_eq_sat s.framesValidated, satAdd_toNat_eq_sat s.bytesConsumed _, rfl⟩
  case decoder => rw [exec_eq_next_perform, perform_decodeType]
  case signal =>
    rw [signals_decodeType, signals, signalWhenSelected, if_pos ⟨hc, hh⟩, candidateType_of_frame hbuf,
      candidatePayload_of_frame hp hbuf]

end Sys2Proof.Spec

namespace Sys2Proof.Machine

/-! ### Runs of engine turns -/

/-- `n` bytes of noise take `n` DROP steps (42_synchronizer R144). -/
theorem engineTurn_iterate_noise {noise rest : List Byte} {s : State} (hbuf : s.buf = noise ++ rest)
    (hnoise : ∀ b ∈ noise, b ≠ 0xC8#8 ∧ ¬(b = 0x0F#8 ∧ Spec.sbusEnabled s)) :
    engineTurn^[noise.length] s = consumeBytes noise.length s := by
  induction noise generalizing s with
  | nil => exact (consumeBytes_zero s).symm
  | cons b noise ih =>
    obtain ⟨hcrsf, hsbus⟩ := hnoise b List.mem_cons_self
    have hdrop : (consumeBytes 1 s).buf = noise ++ rest := by rw [consumeBytes_buf, hbuf]; rfl
    rw [List.length_cons, Function.iterate_succ_apply,
      engineTurn_of_notSync (classOf_of_notSync (rest := noise ++ rest) hbuf hcrsf hsbus),
      ih hdrop fun c hc => hnoise c (List.mem_cons_of_mem b hc), consumeBytes_consumeBytes, Nat.add_comm]

/-- There is room for `n` more events, or events are off. -/
def RoomFor (n : Nat) (s : State) : Prop := s.ctrl.evEn = false ∨ s.evq.length + n ≤ s.params.evDepth

theorem RoomFor.not_held {n : Nat} {s : State} (h : RoomFor (n + 1) s) : held s = false :=
  not_held_of_room (h.imp_right fun h => by omega)

theorem RoomFor.mono {m n : Nat} {s : State} (h : RoomFor n s) (hmn : m ≤ n) : RoomFor m s :=
  h.imp_right fun h => by omega

theorem RoomFor.consumeBytes {n : Nat} {s : State} (h : RoomFor n s) (m : Nat) : RoomFor n (consumeBytes m s) := h

/-- A rejection takes the place of one event. -/
theorem RoomFor.rejectCandidate {n : Nat} {s : State} (h : RoomFor (n + 1) s) (d : Dialect) (r : Reason) :
    RoomFor n (rejectCandidate d r s) := by
  unfold RoomFor at h ⊢
  rw [rejectCandidate_ctrl, rejectCandidate_params, rejectCandidate_evq]
  rcases h with hoff | hroom
  · exact .inl hoff
  · refine .inr ?_
    split
    · rw [List.length_append, List.length_singleton]; omega
    · omega

/-- The length byte of a rejected candidate, with a frame behind it: `0xC8` is the sync byte of a candidate whose length
byte is the frame's sync byte, which is no legal length; any other such byte is no sync byte, `0x0F` being a legal
length (42_synchronizer R145). -/
theorem engineTurn_of_bad_length_byte {s : State} {L ty : Byte} {payload rest : List Byte} (hroom : RoomFor 2 s)
    (hL : L.toNat < 2 ∨ 62 < L.toNat) (hbuf : s.buf = L :: (Spec.frame ty payload ++ rest)) :
    (engineTurn s).buf = Spec.frame ty payload ++ rest ∧ (engineTurn s).framesValidated = s.framesValidated ∧
      (engineTurn s).framesRejected = satAdd s.framesRejected (if L = 0xC8#8 then 1 else 0) ∧
      RoomFor 1 (engineTurn s) := by
  by_cases hsync : L = 0xC8#8
  · have hc : classOf s = .badLen := by
      rw [frame_append] at hbuf
      exact classOf_of_badLen (hsync ▸ hbuf) (.inr (by decide))
    rw [engineTurn_of_badLen hroom.not_held hc, if_pos hsync]
    exact ⟨by rw [rejectCandidate_buf, hbuf]; rfl, rejectCandidate_framesValidated _ _ s,
      rejectCandidate_framesRejected _ _ s, hroom.rejectCandidate _ _⟩
  · have hc : classOf s = .notSync := by
      refine classOf_of_notSync hbuf hsync ?_
      rintro ⟨rfl, -⟩
      exact absurd hL (by decide)
    rw [engineTurn_of_notSync hc, if_neg hsync, satAdd_zero]
    exact ⟨by rw [consumeBytes_buf, hbuf]; rfl, rfl, rfl, (hroom.mono (by decide)).consumeBytes 1⟩

theorem engineTurn_of_frame {s : State} {ty : Byte} {payload rest : List Byte} (hroom : RoomFor 1 s)
    (hp : payload.length ≤ 60) (hbuf : s.buf = Spec.frame ty payload ++ rest) :
    (engineTurn s).buf = rest ∧ (engineTurn s).framesValidated = satInc s.framesValidated ∧
      (engineTurn s).framesRejected = s.framesRejected := by
  rw [engineTurn_of_crcOk hroom.not_held (classOf_of_frame hp hbuf), acceptFrame_eq hp hbuf]
  exact ⟨rfl, rfl, decodeEffect_framesRejected ty payload s⟩

end Sys2Proof.Machine

namespace Sys2Proof.Spec

open Sys2Proof.Machine

/-- Settles O31: the `n` turns together consume `n` bytes. -/
theorem noiseIsDroppedByteByByte : Obligations.NoiseIsDroppedByteByByte := by
  unfold Obligations.NoiseIsDroppedByteByByte
  intro noise rest s hbuf hnoise
  exact ⟨_, satAdd_toNat_eq_sat s.bytesConsumed noise.length,
    (engineTurn_iterate_noise hbuf hnoise).trans (consumeBytes_eq hbuf)⟩

/-- Settles O32: the first turn rejects the candidate, the second removes its length byte, the third accepts the
frame. -/
theorem frameBehindABadLengthIsStillDetected : Obligations.FrameBehindABadLengthIsStillDetected := by
  unfold Obligations.FrameBehindABadLengthIsStillDetected
  intro s L ty payload rest hp hL hbuf hroom
  replace hroom : RoomFor 3 s := hroom
  have hfirst := engineTurn_of_badLen hroom.not_held (classOf_of_badLen hbuf hL)
  have hturns : engineTurn^[3] s = engineTurn (engineTurn (rejectCandidate .crsf .malformedLength s)) :=
    congrArg (fun t => engineTurn (engineTurn t)) hfirst
  have hbuf' : (rejectCandidate .crsf .malformedLength s).buf = L :: (frame ty payload ++ rest) := by
    rw [rejectCandidate_buf, hbuf]; rfl
  obtain ⟨hbuf'', hvalidated, hrejected, hroom'⟩ := engineTurn_of_bad_length_byte (hroom.rejectCandidate _ _) hL hbuf'
  obtain ⟨hrest, hvalidated', hrejected'⟩ := engineTurn_of_frame hroom' hp hbuf''
  rw [hturns]
  refine ⟨hrest, ?_, ?_⟩
  · rw [hvalidated', hvalidated, rejectCandidate_framesValidated, satInc_toNat_eq_sat]
  · rw [hrejected', hrejected, rejectCandidate_framesRejected, satInc, satAdd_satAdd, satAdd_toNat_eq_sat]
    split <;> rfl

end Sys2Proof.Spec

namespace Sys2Proof.Machine

/-! ### POP until `evq` is empty -/

/-- What POP answers for an event. -/
def eventAnswer (e : Event) : Response := .event (eventBits e)

theorem popAll_of_nil {s : State} (h : s.evq = []) : popAll s = s := by
  rw [popAll, h]
  rfl

theorem popAll_of_cons {s : State} {e : Event} {rest : List Event} (h : s.evq = e :: rest) :
    popAll s = popAll (perform .pop s) := by
  have hrest : (perform .pop s).evq = rest := by rw [perform_pop, popEvent_evq, h, List.tail_cons]
  rw [popAll, popAll, hrest, h, List.length_cons, popTurns]

/-- The events in `evq`, oldest first, become answers, and nothing else changes. -/
theorem popAll_eq (s : State) : popAll s = { s with evq := [], log := s.log ++ s.evq.map eventAnswer } := by
  obtain ⟨evq, h⟩ : ∃ evq, s.evq = evq := ⟨_, rfl⟩
  rw [h]
  induction evq generalizing s with
  | nil => rw [popAll_of_nil h, List.map_nil, List.append_nil, ← h]
  | cons e rest ih =>
    have hpop : perform .pop s = { s with evq := rest, log := s.log ++ [eventAnswer e] } := by
      rw [perform_pop, popEvent, h]
      rfl
    rw [popAll_of_cons h, ih _ (by rw [hpop]), hpop]
    simp

/-- An event popped early makes no difference to the states in which every event is popped. -/
theorem popAll_pop (s : State) : popAll (perform .pop s) = popAll s := by
  cases h : s.evq with
  | nil => rw [perform_pop, popEvent, h]
  | cons e rest => exact (popAll_of_cons h).symm

@[simp] theorem popAll_popAll (s : State) : popAll (popAll s) = popAll s := by
  simp [popAll_eq]

/-! ### POP until `evq` is empty, after each shared operation -/

@[simp] theorem quiescent_popAll (s : State) : quiescent (popAll s) = quiescent s := by
  rw [popAll_eq]; rfl

@[simp] theorem popAll_params (s : State) : (popAll s).params = s.params := by rw [popAll_eq]

@[simp] theorem popAll_buf (s : State) : (popAll s).buf = s.buf := by rw [popAll_eq]

@[simp] theorem popAll_evq (s : State) : (popAll s).evq = [] := by rw [popAll_eq]

@[simp] theorem popAll_ctrl (s : State) : (popAll s).ctrl = s.ctrl := by rw [popAll_eq]

@[simp] theorem popAll_results (s : State) : (popAll s).results = s.results := by rw [popAll_eq]

@[simp] theorem classOf_popAll (s : State) : classOf (popAll s) = classOf s := by
  rw [popAll_eq]; rfl

theorem popAll_pushByte (b : Byte) (s : State) : popAll (pushByte b s) = pushByte b (popAll s) := by
  cases hq : quiescent s
  · rw [pushByte_of_not_quiescent b hq, pushByte_of_not_quiescent b ((quiescent_popAll s).trans hq)]
  · rw [pushByte_of_quiescent b hq, pushByte_of_quiescent b ((quiescent_popAll s).trans hq), popAll_eq, popAll_eq]

theorem popAll_consumeBytes (n : Nat) (s : State) : popAll (consumeBytes n s) = consumeBytes n (popAll s) := by
  rw [popAll_eq, popAll_eq]; rfl

theorem popAll_countValidated (s : State) : popAll (countValidated s) = countValidated (popAll s) := by
  rw [popAll_eq, popAll_eq]; rfl

theorem popAll_countRejected (s : State) : popAll (countRejected s) = countRejected (popAll s) := by
  rw [popAll_eq, popAll_eq]; rfl

theorem popAll_decodeEffect (t : Byte) (p : List Byte) (s : State) :
    popAll (decodeEffect t p s) = decodeEffect t p (popAll s) := by
  obtain ⟨f, w, hdecode⟩ := decodeEffect_eq t p
  rw [hdecode, hdecode, popAll_eq, popAll_eq]

/-- An event that is emitted and in the end popped is an answer behind those of the events before it. -/
theorem popAll_emitEvent (e : Event) (s : State) :
    popAll (emitEvent e s) = if s.ctrl.evEn then answer (eventAnswer e) (popAll s) else popAll s := by
  unfold emitEvent
  split
  · simp [popAll_eq, answer]
  · rfl

/-- The whole register bank replaced. -/
def setResults (r : Results) (s : State) : State := { s with results := r }

theorem acceptSbus_eq (s : State) :
    acceptSbus s = consumeBytes Config.sbusFrameLen
      (setResults (applySbusWrites (Config.sbusWrites (sbusFrame s) s.results) s.results)
        (emitEvent (sbusAccepted (sbusFrame s)) (countValidated s))) := by
  simp only [acceptSbus, emitEvent_results, countValidated_results, setResults]

theorem popAll_setResults (r : Results) (s : State) : popAll (setResults r s) = setResults r (popAll s) := by
  rw [popAll_eq, popAll_eq]; rfl

theorem popAll_rejectCandidate (d : Dialect) (r : Reason) (s : State) :
    popAll (rejectCandidate d r (popAll s)) = popAll (rejectCandidate d r s) := by
  simp [rejectCandidate, popAll_consumeBytes, popAll_emitEvent, popAll_countRejected]

theorem popAll_acceptFrame (s : State) : popAll (acceptFrame (popAll s)) = popAll (acceptFrame s) := by
  simp [acceptFrame, candidateLength, candidateType, candidatePayload, popAll_consumeBytes, popAll_decodeEffect,
    popAll_emitEvent, popAll_countValidated]

theorem popAll_acceptSbus (s : State) : popAll (acceptSbus (popAll s)) = popAll (acceptSbus s) := by
  simp [acceptSbus_eq, sbusFrame, popAll_consumeBytes, popAll_setResults, popAll_emitEvent, popAll_countValidated]

/-- An empty `evq` holds nothing back, as `EV_DEPTH` is at least 1 (42_synchronizer R150, 00_scope R9). -/
theorem not_held_popAll {s : State} (hs : StateInv s) : held (popAll s) = false := by
  have hparams := hs.params
  simp only [Config.Params.wf, decide_eq_true_eq] at hparams
  exact not_held_of_room (.inr (by rw [popAll_evq, popAll_params, List.length_nil]; omega))

/-- An engine's turn that is not held does the same with and without events in `evq`. -/
theorem popAll_engineTurn {s : State} (hs : StateInv s) (hh : held s = false) :
    popAll (engineTurn (popAll s)) = popAll (engineTurn s) := by
  have hh' := not_held_popAll hs
  have hc' := classOf_popAll s
  cases hc : classOf s <;> rw [hc] at hc'
  case waitSync | waitLen | waitBody => simp [engineTurn, hc, decodeStep]
  case notSync => simp [engineTurn_of_notSync hc, engineTurn_of_notSync hc', popAll_consumeBytes]
  case badLen => rw [engineTurn_of_badLen hh hc, engineTurn_of_badLen hh' hc', popAll_rejectCandidate]
  case crcBad => rw [engineTurn_of_crcBad hh hc, engineTurn_of_crcBad hh' hc', popAll_rejectCandidate]
  case sbusBad => rw [engineTurn_of_sbusBad hh hc, engineTurn_of_sbusBad hh' hc', popAll_rejectCandidate]
  case crcOk => rw [engineTurn_of_crcOk hh hc, engineTurn_of_crcOk hh' hc', popAll_acceptFrame]
  case sbusOk => rw [engineTurn_of_sbusOk hh hc, engineTurn_of_sbusOk hh' hc', popAll_acceptSbus]

/-! ### SETTLE, turn by turn -/

theorem settleTurns_of_quiescent {s : State} (n : Nat) (hq : quiescent s = true) : settleTurns n s = s := by
  cases n with
  | zero => rfl
  | succ n => rw [settleTurns, if_pos hq]

theorem settle_of_quiescent {s : State} (hq : quiescent s = true) : settle s = s := settleTurns_of_quiescent _ hq

/-- One turn of SETTLE (30_encoding R108). -/
def settleTurn (s : State) : State :=
  if quiescent s then s else if held s then perform .pop s else engineTurn s

theorem settleTurns_succ (n : Nat) (s : State) : settleTurns (n + 1) s = settleTurns n (settleTurn s) := by
  unfold settleTurn
  cases hq : quiescent s
  · cases hh : held s <;> simp [settleTurns, hq, hh]
  · simp [settleTurns_of_quiescent _ hq]

theorem settleTurns_eq_iterate (n : Nat) (s : State) : settleTurns n s = settleTurn^[n] s := by
  induction n generalizing s with
  | zero => rfl
  | succ n ih => rw [settleTurns_succ, ih, Function.iterate_succ_apply]

section
variable {s : State}

theorem settleTurn_of_quiescent (hq : quiescent s = true) : settleTurn s = s := if_pos hq

theorem settleTurn_of_held (hq : quiescent s = false) (hh : held s = true) : settleTurn s = perform .pop s := by
  rw [settleTurn, hq, hh]
  rfl

theorem settleTurn_of_not_held (hq : quiescent s = false) (hh : held s = false) : settleTurn s = engineTurn s := by
  rw [settleTurn, hq, hh]
  rfl

variable (hs : StateInv s)
include hs

theorem settleTurn_keeps_stateInv : StateInv (settleTurn s) := by
  unfold settleTurn
  split
  · exact hs
  · split
    · exact perform_keeps_stateInv .pop hs
    · exact engineTurn_keeps_stateInv hs

theorem settleMeasure_settleTurn_lt (hq : quiescent s = false) : settleMeasure (settleTurn s) < settleMeasure s := by
  cases hh : held s
  · rw [settleTurn_of_not_held hq hh]; exact settleMeasure_engineTurn_lt hq hh
  · rw [settleTurn_of_held hq hh]; exact settleMeasure_pop_lt hs hh

theorem quiescent_settle : quiescent (settle s) = true := quiescent_settleTurns hs (Nat.le_refl (settleMeasure s))

/-- Turns beyond the bound of SETTLE change nothing. -/
theorem settleTurns_eq_settle {n : Nat} (hn : settleMeasure s ≤ n) : settleTurns n s = settle s := by
  have hfixed : settleTurn (settle s) = settle s := settleTurn_of_quiescent (quiescent_settle hs)
  obtain ⟨k, rfl⟩ := Nat.exists_eq_add_of_le' hn
  rw [settleTurns_eq_iterate, Function.iterate_add_apply, ← settleTurns_eq_iterate (settleMeasure s)]
  exact Function.iterate_fixed hfixed k

/-- SETTLE is its first turn and SETTLE. -/
theorem settle_settleTurn : settle (settleTurn s) = settle s := by
  cases hq : quiescent s
  · have hlt := settleMeasure_settleTurn_lt hs hq
    rw [← settleTurns_eq_settle (settleTurn_keeps_stateInv hs) (Nat.le_of_lt hlt), ← settleTurns_succ,
      settleTurns_eq_settle hs (Nat.le_succ _)]
  · rw [settleTurn_of_quiescent hq]

end

theorem settleTurns_keeps_stateInv (n : Nat) {s : State} (hs : StateInv s) : StateInv (settleTurns n s) := by
  induction n generalizing s with
  | zero => exact hs
  | succ n ih => rw [settleTurns_succ]; exact ih (settleTurn_keeps_stateInv hs)

theorem settle_keeps_stateInv {s : State} (hs : StateInv s) : StateInv (settle s) := settleTurns_keeps_stateInv _ hs

theorem settle_settle {s : State} (hs : StateInv s) : settle (settle s) = settle s :=
  settle_of_quiescent (quiescent_settle hs)

/-! ### POP until `evq` is empty, after SETTLE and after pushed bytes -/

theorem popTurns_keeps_stateInv (n : Nat) {s : State} (hs : StateInv s) : StateInv (popTurns n s) := by
  induction n generalizing s with
  | zero => exact hs
  | succ n ih => exact ih (perform_keeps_stateInv .pop hs)

theorem popAll_keeps_stateInv {s : State} (hs : StateInv s) : StateInv (popAll s) := popTurns_keeps_stateInv _ hs

theorem settleMeasure_popAll_le (s : State) : settleMeasure (popAll s) ≤ settleMeasure s := by
  rw [settleMeasure, settleMeasure, popAll_buf, popAll_evq, List.length_nil]
  omega

/-- Whether SETTLE finds events to pop or finds them popped makes no difference once all of them are popped: a turn that
POPs is no turn at all then, and the engine's turns are the same. -/
theorem popAll_settle_popAll {s : State} (hs : StateInv s) : popAll (settle (popAll s)) = popAll (settle s) := by
  induction hm : settleMeasure s using Nat.strong_induction_on generalizing s with
  | _ m ih =>
    subst hm
    have hs' := popAll_keeps_stateInv hs
    have hq' := quiescent_popAll s
    cases hq : quiescent s
    case true => rw [settle_of_quiescent (hq'.trans hq), settle_of_quiescent hq, popAll_popAll]
    case false =>
      have hlt := settleMeasure_settleTurn_lt hs hq
      rw [← settle_settleTurn hs]
      cases hh : held s
      case true =>
        rw [settleTurn_of_held hq hh] at hlt ⊢
        rw [← ih _ hlt (perform_keeps_stateInv .pop hs) rfl, popAll_pop]
      case false =>
        have hlt' := settleMeasure_settleTurn_lt hs' (hq'.trans hq)
        rw [settleTurn_of_not_held hq hh] at hlt ⊢
        rw [settleTurn_of_not_held (hq'.trans hq) (not_held_popAll hs)] at hlt'
        calc popAll (settle (popAll s))
            = popAll (settle (engineTurn (popAll s))) := by
              rw [← settle_settleTurn hs', settleTurn_of_not_held (hq'.trans hq) (not_held_popAll hs)]
          _ = popAll (settle (popAll (engineTurn (popAll s)))) :=
              (ih _ (Nat.lt_of_lt_of_le hlt' (settleMeasure_popAll_le s)) (engineTurn_keeps_stateInv hs') rfl).symm
          _ = popAll (settle (popAll (engineTurn s))) := by rw [popAll_engineTurn hs hh]
          _ = popAll (settle (engineTurn s)) := ih _ hlt (engineTurn_keeps_stateInv hs) rfl

/-! ### Pushed bytes -/

theorem pushBytes_cons (b : Byte) (rest : List Byte) (s : State) :
    pushBytes (b :: rest) s = pushBytes rest (pushByte b (settle s)) := rfl

theorem pushByte_settle_keeps_stateInv (b : Byte) {s : State} (hs : StateInv s) : StateInv (pushByte b (settle s)) :=
  perform_keeps_stateInv (.push b) (settle_keeps_stateInv hs)

theorem pushBytes_keeps_stateInv (bytes : List Byte) {s : State} (hs : StateInv s) : StateInv (pushBytes bytes s) := by
  induction bytes generalizing s with
  | nil => exact settle_keeps_stateInv hs
  | cons b rest ih => exact ih (pushByte_settle_keeps_stateInv b hs)

/-- SETTLE comes before the first byte anyway. -/
theorem pushBytes_settle (bytes : List Byte) {s : State} (hs : StateInv s) :
    pushBytes bytes (settle s) = pushBytes bytes s := by
  cases bytes with
  | nil => exact settle_settle hs
  | cons b rest => rw [pushBytes_cons, pushBytes_cons, settle_settle hs]

theorem pushBytes_append (xs ys : List Byte) {s : State} (hs : StateInv s) :
    pushBytes (xs ++ ys) s = pushBytes ys (pushBytes xs s) := by
  induction xs generalizing s with
  | nil => exact (pushBytes_settle ys hs).symm
  | cons b xs ih => exact ih (pushByte_settle_keeps_stateInv b hs)

theorem popAll_pushBytes_popAll (bytes : List Byte) {s : State} (hs : StateInv s) :
    popAll (pushBytes bytes (popAll s)) = popAll (pushBytes bytes s) := by
  induction bytes generalizing s with
  | nil => exact popAll_settle_popAll hs
  | cons b rest ih =>
    have hs' := popAll_keeps_stateInv hs
    rw [pushBytes_cons, pushBytes_cons, ← ih (pushByte_settle_keeps_stateInv b hs'),
      ← ih (pushByte_settle_keeps_stateInv b hs), popAll_pushByte, popAll_pushByte, popAll_settle_popAll hs]

end Sys2Proof.Machine

namespace Sys2Proof.Spec

open Sys2Proof.Machine

/-- Settles O35: with every event popped at the end, it makes no difference which of them were popped before. -/
theorem feedIsChunkInvariant : Obligations.FeedIsChunkInvariant := by
  unfold Obligations.FeedIsChunkInvariant
  intro s xs ys hs
  unfold feed
  refine ⟨?chunks, ?early⟩
  case chunks => rw [pushBytes_append xs ys hs, popAll_pushBytes_popAll ys (pushBytes_keeps_stateInv xs hs)]
  case early =>
    rw [← popAll_pushBytes_popAll xs (perform_keeps_stateInv .pop hs), popAll_pop, popAll_pushBytes_popAll xs hs]

end Sys2Proof.Spec

/-! # Proofs for 43_decoders

DEC_UNKNOWN (O15), the one form that the seven known decoders share, their fields as the numbers read from the bytes
(O8, O9, O11 to O13), the channels (O14), the FlightMode string (O10), and who can write a group's registers (O38). -/

namespace Sys2Proof.Machine

/-! ### The seven known decoders -/

/-- The registers that the decoder of a group writes (43_decoders R172 to R178). -/
def decoderWrite : ResultGroup → List Byte → Results → Results
  | .channels => writeChannels
  | .telemetry .linkStat => writeLinkStat
  | .telemetry .attitude => writeAttitude
  | .telemetry .flightMode => writeFlightMode
  | .telemetry .battery => writeBattery
  | .telemetry .gps => writeGps
  | .telemetry .vario => writeVario

theorem contains_groupType (g : ResultGroup) : knownTypes.contains (Spec.groupType g) = true := by
  rcases g with _ | k
  · rfl
  · cases k <;> rfl

theorem exists_groupType_of_known {t : Byte} (h : knownTypes.contains t = true) : ∃ g, t = Spec.groupType g := by
  rcases eq_of_known h with rfl | rfl | rfl | rfl | rfl | rfl | rfl
  · exact ⟨.telemetry .gps, rfl⟩
  · exact ⟨.telemetry .vario, rfl⟩
  · exact ⟨.telemetry .battery, rfl⟩
  · exact ⟨.telemetry .linkStat, rfl⟩
  · exact ⟨.channels, rfl⟩
  · exact ⟨.telemetry .attitude, rfl⟩
  · exact ⟨.telemetry .flightMode, rfl⟩

/-- DECODE of a group's type byte is the length-checked write of the group (43_decoders R170, R171). -/
theorem decodeEffect_groupType (g : ResultGroup) (p : List Byte) (s : State) :
    decodeEffect (Spec.groupType g) p s = lengthChecked (minPayload (Spec.groupType g)) p (decoderWrite g p) s := by
  rcases g with _ | k
  · rfl
  · cases k <;> rfl

theorem exec_decodeType_groupType (g : ResultGroup) (p : List Byte) (s : State) :
    exec (decodeType (Spec.groupType g) p) s =
      .next (lengthChecked (minPayload (Spec.groupType g)) p (decoderWrite g p) s) := by
  rw [exec_eq_next_perform, perform_decodeType, decodeEffect_groupType]

section
variable {g : ResultGroup} {p : List Byte}

/-- A short payload is signalled and counted, and nothing is written (43_decoders R171). -/
theorem tooShort_of_length_lt (h : p.length < minPayload (Spec.groupType g)) (s : State) :
    Spec.tooShort (decodeType (Spec.groupType g) p) s := by
  refine ⟨?signal, countTooShort s, ?exec, satInc_toNat_eq_sat s.payloadTooShort, rfl⟩
  case signal => rw [signals_decodeType, decoderSignal, contains_groupType, if_pos rfl, if_pos h]
  case exec => rw [exec_decodeType_groupType, lengthChecked, if_pos h]

theorem exec_decodeType_of_length_le (h : minPayload (Spec.groupType g) ≤ p.length) (s : State) :
    exec (decodeType (Spec.groupType g) p) s = .next { s with results := decoderWrite g p s.results } := by
  rw [exec_decodeType_groupType, lengthChecked, if_neg (Nat.not_lt.mpr h)]

end

/-! ### The fields of a payload as numbers -/

/-- The value of a field in the sense of 00_scope R12 is the word's two's-complement value. -/
theorem sext_toNat {n : Nat} (x : BitVec (n + 1)) : Spec.sext (n + 1) x.toNat = x.toInt := by
  rw [Spec.sext, BitVec.toInt_eq_toNat_cond, Nat.add_sub_cancel]
  have hpow : 2 ^ (n + 1) = 2 * 2 ^ n := Nat.pow_succ'
  by_cases h : x.toNat < 2 ^ n
  · rw [if_pos h, if_pos (by omega)]
  · rw [if_neg h, if_neg (by omega)]
    push_cast
    rfl

theorem toNat_append_eq {m n : Nat} (x : BitVec m) (y : BitVec n) :
    (x ++ y).toNat = x.toNat * 2 ^ n + y.toNat := by
  rw [BitVec.toNat_append, ← Nat.shiftLeft_add_eq_or_of_lt y.isLt, Nat.shiftLeft_eq]

theorem frameByte_toNat (p : List Byte) (o : Nat) : (frameByte p o).toNat = Spec.u8 p o := rfl

theorem frameByte_toInt (p : List Byte) (o : Nat) : (frameByte p o).toInt = Spec.s8 p o :=
  (sext_toNat (frameByte p o)).symm

theorem be16_toNat (p : List Byte) (o : Nat) : (be16 p o).toNat = Spec.u8 p o * 256 + Spec.u8 p (o + 1) :=
  toNat_append_eq _ _

theorem be16_toInt (p : List Byte) (o : Nat) : (be16 p o).toInt = Spec.s16 p o := by
  rw [← sext_toNat, be16_toNat, Spec.s16]

theorem be32_toNat (p : List Byte) (o : Nat) :
    (be32 p o).toNat =
      Spec.u8 p o * 16777216 + Spec.u8 p (o + 1) * 65536 + Spec.u8 p (o + 2) * 256 + Spec.u8 p (o + 3) := by
  have hhalves : (be32 p o).toNat = (be16 p o).toNat * 65536 + (be16 p (o + 2)).toNat := toNat_append_eq _ _
  rw [hhalves, be16_toNat, be16_toNat]
  ring

theorem be32_toInt (p : List Byte) (o : Nat) : (be32 p o).toInt = Spec.s32 p o := by
  rw [← sext_toNat, be32_toNat, Spec.s32]

theorem frameByte_setWidth_toNat (p : List Byte) (o : Nat) : ((frameByte p o).setWidth 24).toNat = Spec.u8 p o :=
  BitVec.toNat_setWidth_of_le (by decide)

/-- No bit of a payload byte is lost by a shift of at most 16 in 24 bits (30_encoding R91). -/
theorem frameByte_shifted_toNat (p : List Byte) (o : Nat) {n : Nat} (hn : n ≤ 16) :
    ((frameByte p o).setWidth 24 <<< n).toNat = Spec.u8 p o <<< n := by
  have hfit : Spec.u8 p o <<< n < 2 ^ 24 := by
    calc Spec.u8 p o <<< n
      _ = Spec.u8 p o * 2 ^ n := Nat.shiftLeft_eq _ _
      _ < 2 ^ 8 * 2 ^ n := Nat.mul_lt_mul_of_pos_right (frameByte p o).isLt (Nat.two_pow_pos n)
      _ ≤ 2 ^ 8 * 2 ^ 16 := Nat.mul_le_mul_left _ (Nat.pow_le_pow_right (by decide) hn)
  rw [BitVec.toNat_shiftLeft, frameByte_setWidth_toNat, Nat.mod_eq_of_lt hfit]

theorem mahField_toNat (p : List Byte) :
    (mahField p).toNat = (Spec.u8 p 7 <<< 16) ||| (Spec.u8 p 8 <<< 7) ||| Spec.u8 p 9 := by
  rw [mahField, BitVec.toNat_or, BitVec.toNat_or, frameByte_shifted_toNat p 7 (by decide),
    frameByte_shifted_toNat p 8 (by decide), frameByte_setWidth_toNat]

/-! ### The channels -/

theorem writeChannels_of_length_le {p : List Byte} (h : 22 ≤ p.length) (r : Results) :
    writeChannels p r = commitChannels (Vector.ofFn fun k => lane (p.take 22) k.val) r := by
  have hfull : 22 ≤ (p.take 22).length := by rw [List.length_take]; omega
  rw [writeChannels, Config.chBytes, unpack_of_le hfull]

/-- A commit of the Channel Set has no `REC_VALID` bit to set (10_state R38). -/
theorem commitChannels_eq (v : Vector Raw 16) (r : Results) :
    commitChannels v r =
      { r with chRaw := v, seq := { r.seq with channels := r.seq.channels + 1 } } := by
  simp only [commitChannels, commit, validMask, BitVec.ofNat_eq_ofNat, BitVec.or_zero, bumpSeq]

/-! ### The FlightMode string -/

theorem isSpaceByte_iff (b : Byte) :
    isSpaceByte b = true ↔ b ∈ [0x09#8, 0x0A#8, 0x0B#8, 0x0C#8, 0x0D#8, 0x20#8] := by
  simp only [isSpaceByte, Bool.or_eq_true, beq_iff_eq, List.mem_cons, List.not_mem_nil, or_false, or_assoc]

theorem untilNul_append_dropWhile (p : List Byte) : untilNul p ++ p.dropWhile (fun b => b != 0#8) = p :=
  List.takeWhile_append_dropWhile

theorem nul_not_mem_untilNul (p : List Byte) : 0#8 ∉ untilNul p := fun h =>
  absurd (List.mem_takeWhile_imp h) (by decide)

/-- The first byte left by `dropWhile` fails its test. -/
theorem not_of_head?_dropWhile {q : Byte → Bool} {l : List Byte} {b : Byte} (h : (l.dropWhile q).head? = some b) :
    q b = false := by
  have hhead := List.head?_dropWhile_not q l
  rwa [h] at hhead

theorem dropWhile_nul_cases (p : List Byte) :
    p.dropWhile (fun b => b != 0#8) = [] ∨ (p.dropWhile (fun b => b != 0#8)).head? = some 0#8 := by
  cases h : (p.dropWhile (fun b => b != 0#8)).head? with
  | none => exact .inl (List.head?_eq_none_iff.mp h)
  | some b =>
    have hnul : (b != 0#8) = false := not_of_head?_dropWhile (q := fun b => b != 0#8) h
    exact .inr (congrArg some (bne_eq_false_iff_eq.mp hnul))

/-- Trimming at the end is `rdropWhile`, so the library's lemmas on it apply. -/
theorem trimSpaces_eq (s : List Byte) : trimSpaces s = (s.dropWhile isSpaceByte).rdropWhile isSpaceByte := rfl

/-- The spaces that trimming removes at the front. -/
def leadingSpaces (s : List Byte) : List Byte := s.takeWhile isSpaceByte

/-- The spaces that trimming removes at the end. -/
def trailingSpaces (s : List Byte) : List Byte := (s.dropWhile isSpaceByte).rtakeWhile isSpaceByte

theorem leadingSpaces_append_trimSpaces_append (s : List Byte) :
    leadingSpaces s ++ trimSpaces s ++ trailingSpaces s = s := by
  rw [List.append_assoc, trimSpaces_eq, trailingSpaces, List.rdropWhile_append_rtakeWhile, leadingSpaces,
    List.takeWhile_append_dropWhile]

theorem isSpaceByte_of_mem_removed {s : List Byte} {b : Byte} (h : b ∈ leadingSpaces s ++ trailingSpaces s) :
    isSpaceByte b = true := by
  rcases List.mem_append.mp h with h | h
  · exact List.mem_takeWhile_imp h
  · exact List.mem_rtakeWhile_imp h

theorem not_isSpaceByte_of_head? {s : List Byte} {b : Byte} (h : (trimSpaces s).head? = some b) :
    isSpaceByte b = false := by
  obtain ⟨removed, hsplit⟩ := List.rdropWhile_prefix isSpaceByte (s.dropWhile isSpaceByte)
  refine not_of_head?_dropWhile (l := s) ?_
  rw [← hsplit, ← trimSpaces_eq, List.head?_append, h, Option.some_or]

theorem not_isSpaceByte_of_getLast? {s : List Byte} {b : Byte} (h : (trimSpaces s).getLast? = some b) :
    isSpaceByte b = false := by
  rw [trimSpaces, List.getLast?_reverse] at h
  exact not_of_head?_dropWhile h

theorem flightModeString_append (p : List Byte) :
    p = leadingSpaces (untilNul p) ++ flightModeString p ++ trailingSpaces (untilNul p) ++
      p.dropWhile (fun b => b != 0#8) := by
  rw [flightModeString, leadingSpaces_append_trimSpaces_append, untilNul_append_dropWhile]

theorem length_flightModeString_le (p : List Byte) : (flightModeString p).length ≤ p.length := by
  have hlength := congrArg List.length (flightModeString_append p)
  simp only [List.length_append] at hlength
  omega

/-! ### Who writes a group's registers -/

theorem decoderWrite_recordWrite {g : ResultGroup} {p : List Byte} (h : minPayload (Spec.groupType g) ≤ p.length) :
    RecordWrite true g (decoderWrite g p) := by
  match g with
  | .channels =>
    rw [show decoderWrite .channels p = _ from funext (writeChannels_of_length_le h)]
    exact .channels _
  | .telemetry .linkStat => exact .linkStat _
  | .telemetry .attitude => exact .attitude _
  | .telemetry .flightMode => exact .flightMode _
  | .telemetry .battery => exact recordWrite_battery_sbus _
  | .telemetry .gps => exact recordWrite_gps_sbus _
  | .telemetry .vario => exact .vario _

/-- The write of one group keeps the registers of every other. -/
theorem RecordWrite.sameRecord_of_ne {sbus : Bool} {g h : ResultGroup} {w : Results → Results}
    (hw : RecordWrite sbus g w) (hne : h ≠ g) (r : Results) : Spec.sameRecord h r (w r) := by
  rcases hw.commitsAmong r h with ⟨-, hsame, -⟩ | ⟨hmem, -⟩
  · exact hsame
  · exact absurd (List.mem_singleton.mp hmem) hne

/-- DECODE changes a group's registers only for the type byte of the group. -/
theorem eq_groupType_of_decodeEffect {t : Byte} {p : List Byte} {s : State} {g : ResultGroup}
    (h : ¬Spec.sameRecord g s.results (decodeEffect t p s).results) : t = Spec.groupType g := by
  by_cases ht : knownTypes.contains t = true
  · obtain ⟨k, rfl⟩ := exists_groupType_of_known ht
    rw [decodeEffect_groupType, lengthChecked_results] at h
    split at h
    next => exact absurd (sameRecord_refl g s.results) h
    next hlen =>
      by_cases hne : g = k
      · rw [hne]
      · exact absurd ((decoderWrite_recordWrite (Nat.le_of_not_lt hlen)).sameRecord_of_ne hne s.results) h
  · rw [decodeEffect_of_unknown p s (Bool.eq_false_iff.mpr ht)] at h
    exact absurd (sameRecord_refl g s.results) h

theorem acceptFrame_results (s : State) :
    ∃ s' : State, s'.results = s.results ∧
      (acceptFrame s).results = (decodeEffect (candidateType s) (candidatePayload s) s').results :=
  ⟨emitEvent (crsfAccepted (candidateType s) (candidatePayload s)) (countValidated s), by simp, rfl⟩

theorem whenSelected_results {c : StepClass} {s e : State} (he : e.results = s.results) :
    (whenSelected c s e).results = s.results := by
  rcases whenSelected_cases c s e with ⟨-, -, h⟩ | ⟨-, h⟩ <;> rw [h]
  exact he

/-- A step that changes the register bank is selected. -/
theorem selected_of_results_ne {c : StepClass} {s e : State} (h : (whenSelected c s e).results ≠ s.results) :
    classOf s = c ∧ whenSelected c s e = e := by
  rcases whenSelected_cases c s e with ⟨hc, -, he⟩ | ⟨-, he⟩
  · exact ⟨hc, he⟩
  · exact absurd (congrArg State.results he) h

/-- The operations that can change the register bank. -/
theorem results_writer {i : Instr} {s : State} (h : (perform i s).results ≠ s.results) :
    i = .reset ∨ (∃ t p, i = decodeType t p) ∨
      (i = .emit ∧ classOf s = .crcOk ∧ perform i s = acceptFrame s) ∨ (i = .sbusAccept ∧ classOf s = .sbusOk) := by
  cases i with
  | decGps p => exact .inr (.inl ⟨0x02#8, p, rfl⟩)
  | decVario p => exact .inr (.inl ⟨0x07#8, p, rfl⟩)
  | decBattery p => exact .inr (.inl ⟨0x08#8, p, rfl⟩)
  | decLinkstat p => exact .inr (.inl ⟨0x14#8, p, rfl⟩)
  | decChannels p => exact .inr (.inl ⟨0x16#8, p, rfl⟩)
  | decAttitude p => exact .inr (.inl ⟨0x1E#8, p, rfl⟩)
  | decFlightmode p => exact .inr (.inl ⟨0x21#8, p, rfl⟩)
  | emit =>
    obtain ⟨hc, he⟩ := selected_of_results_ne h
    exact .inr (.inr (.inl ⟨rfl, hc, he⟩))
  | sbusAccept => exact .inr (.inr (.inr ⟨rfl, (selected_of_results_ne h).1⟩))
  | reset => exact .inl rfl
  | drop => exact absurd (whenSelected_results (consumeBytes_results 1 s)) h
  | lenReject | crcReject | sbusReject => exact absurd (whenSelected_results (rejectCandidate_results _ _ s)) h
  | push b => exact absurd (pushByte_results b s) h
  | write index d => exact absurd (writeWord_results index d s) h
  | pop => exact absurd (popEvent_results s) h
  | decUnknown | crc8Step | crc8 | unpack | usMap | read => exact absurd rfl h

end Sys2Proof.Machine

namespace Sys2Proof.Spec

open Sys2Proof.Machine

/-- Settles O15: the model's known types are the seven listed. -/
theorem decUnknownWritesNothing : Obligations.DecUnknownWritesNothing := by
  unfold Obligations.DecUnknownWritesNothing
  intro t p s ht
  have hunknown : knownTypes.contains t = false :=
    Bool.eq_false_iff.mpr fun h => ht (List.contains_iff_mem.mp h)
  exact ⟨decodeType_of_unknown p hunknown, exec_eq_next_perform (.decUnknown t p) s, rfl⟩

/-- Settles O8, as the decoder of the LinkStatistics group, whose fields are single bytes. -/
theorem decLinkstatWritesItsRecord : Obligations.DecLinkstatWritesItsRecord := by
  unfold Obligations.DecLinkstatWritesItsRecord
  intro p s
  refine ⟨rfl, fun h => tooShort_of_length_lt (g := .telemetry .linkStat) h s, fun h => ?_⟩
  exact ⟨_, exec_decodeType_of_length_le (g := .telemetry .linkStat) h s, frameByte_toInt p 3, frameByte_toInt p 4,
    frameByte_toNat p 5, frameByte_toNat p 8, rfl⟩

/-- Settles O9, as the decoder of the Attitude group, whose fields are pairs of bytes. -/
theorem decAttitudeWritesItsRecord : Obligations.DecAttitudeWritesItsRecord := by
  unfold Obligations.DecAttitudeWritesItsRecord
  intro p s
  refine ⟨rfl, fun h => tooShort_of_length_lt (g := .telemetry .attitude) h s, fun h => ?_⟩
  exact ⟨_, exec_decodeType_of_length_le (g := .telemetry .attitude) h s, be16_toInt p 3, be16_toInt p 5,
    be16_toInt p 7, rfl⟩

/-- Settles O11: the mAh field loses no bit in 24 bits, so it is the OR of the shifted numbers. -/
theorem decBatteryWritesItsRecord : Obligations.DecBatteryWritesItsRecord := by
  unfold Obligations.DecBatteryWritesItsRecord
  intro p s
  refine ⟨rfl, fun h => tooShort_of_length_lt (g := .telemetry .battery) h s, fun h => ?_⟩
  exact ⟨_, exec_decodeType_of_length_le (g := .telemetry .battery) h s, be16_toInt p 3, be16_toInt p 5,
    mahField_toNat p, mahField_getLsbD_15 p, frameByte_toNat p 10, rfl⟩

/-- Settles O12: the altitude offset does not wrap around in 32 bits. -/
theorem decGpsWritesItsRecord : Obligations.DecGpsWritesItsRecord := by
  unfold Obligations.DecGpsWritesItsRecord
  intro p s
  refine ⟨rfl, fun h => tooShort_of_length_lt (g := .telemetry .gps) h s, fun h => ?_⟩
  have halt : (altField p).toInt = s16 p 15 - 1000 := by rw [altField_toInt, be16_toInt]
  exact ⟨_, exec_decodeType_of_length_le (g := .telemetry .gps) h s, be32_toInt p 3, be32_toInt p 7, be16_toInt p 11,
    be16_toInt p 13, halt, frameByte_toNat p 17, rfl⟩

/-- Settles O13, as the decoder of the Vario group. -/
theorem decVarioWritesItsRecord : Obligations.DecVarioWritesItsRecord := by
  unfold Obligations.DecVarioWritesItsRecord
  intro p s
  refine ⟨rfl, fun h => tooShort_of_length_lt (g := .telemetry .vario) h s, fun h => ?_⟩
  exact ⟨_, exec_decodeType_of_length_le (g := .telemetry .vario) h s, be16_toInt p 3, rfl⟩

/-- Settles O14: sixteen fields of eleven bits are exactly the first 22 payload bytes, so the rest is not read. -/
theorem decChannelsWritesAllSixteen : Obligations.DecChannelsWritesAllSixteen := by
  unfold Obligations.DecChannelsWritesAllSixteen
  intro p s
  refine ⟨rfl, fun h => tooShort_of_length_lt (g := .channels) h s, fun h => ?_⟩
  have hexec := exec_decodeType_of_length_le (g := .channels) h s
  rw [decoderWrite, writeChannels_of_length_le h, commitChannels_eq] at hexec
  refine ⟨_, hexec, fun k hk j hj => ?_, rfl⟩
  rw [Vector.getElem_ofFn, lane_take p hk, lane_getLsbD p k hj, streamBit]

/-- Settles O10: the string lies between the spaces that trimming removes, all of it before the first NUL. -/
theorem decFlightmodeWritesTheTrimmedString : Obligations.DecFlightmodeWritesTheTrimmedString := by
  unfold Obligations.DecFlightmodeWritesTheTrimmedString
  intro p s hp
  refine ⟨rfl, fun h => tooShort_of_length_lt (g := .telemetry .flightMode) h s, fun h => ?_⟩
  refine ⟨_, leadingSpaces (untilNul p), flightModeString p, trailingSpaces (untilNul p),
    p.dropWhile (fun b => b != 0#8), exec_decodeType_of_length_le (g := .telemetry .flightMode) h s,
    flightModeString_append p, ?noNul, dropWhile_nul_cases p, ?spaces, ?trimmed, ?length,
    fun i hi => padTo60_getElem _ hi, rfl⟩
  case noNul =>
    rw [flightModeString, leadingSpaces_append_trimSpaces_append]
    exact nul_not_mem_untilNul p
  case spaces => exact fun b hb => (isSpaceByte_iff b).mp (isSpaceByte_of_mem_removed hb)
  case trimmed =>
    intro b hb
    rw [← isSpaceByte_iff, Bool.not_eq_true]
    exact hb.elim not_isSpaceByte_of_head? not_isSpaceByte_of_getLast?
  case length =>
    have hlen : (flightModeString p).length ≤ 60 := (length_flightModeString_le p).trans hp
    exact (toNat_fmLen _).trans (Nat.min_eq_left hlen)

/-- Settles O38: only four kinds of operation write the register bank, and DECODE, alone or inside EMIT, writes only the
group of its type byte. -/
theorem onlyItsDecoderWritesARecord : Obligations.OnlyItsDecoderWritesARecord := by
  unfold Obligations.OnlyItsDecoderWritesARecord
  intro i s t g hexec hchanged
  rw [exec_eq_next_perform] at hexec
  obtain rfl := Host.Outcome.next.inj hexec
  have hne : (perform i s).results ≠ s.results := fun h => hchanged (h ▸ sameRecord_refl g s.results)
  rcases results_writer hne with hreset | ⟨ty, p, rfl⟩ | ⟨hemit, hc, haccept⟩ | hsbus
  · exact .inl hreset
  · rw [perform_decodeType] at hchanged
    exact .inr (.inl ⟨p, by rw [eq_groupType_of_decodeEffect hchanged]⟩)
  · obtain ⟨s', hresults, hdecode⟩ := acceptFrame_results s
    rw [haccept, hdecode, ← hresults] at hchanged
    exact .inr (.inr (.inl ⟨hemit, hc, eq_groupType_of_decodeEffect hchanged⟩))
  · exact .inr (.inr (.inr hsbus))

end Sys2Proof.Spec

/-! # Proofs for 44_host_interface

POP (O50), and the host calls as READs of separate states (O53): READs leave no trace in the machine's steps, a group's
words depend on its registers alone, and fewer than `2^32` steps cannot bring its counter round. -/

namespace Sys2Proof.Machine

/-! ### POP -/

theorem popEvent_of_nil {s : State} (h : s.evq = []) : popEvent s = s := by
  rw [popEvent, h]

theorem popEvent_of_cons {s : State} {e : Event} {rest : List Event} (h : s.evq = e :: rest) :
    popEvent s = answer (.event (eventBits e)) { s with evq := rest } := by
  rw [popEvent, h]

/-! ### The log is written and never read -/

/-- The state with no answers logged. -/
def forgetLog (s : State) : State := { s with log := [] }

theorem forgetLog_answer (r : Response) (s : State) : forgetLog (answer r s) = forgetLog s := rfl

theorem forgetLog_congr {s t : State} (h : t = forgetLog s) : forgetLog t = forgetLog s := by
  rw [h]
  rfl

theorem readAt_forgetLog (s : State) (i : Nat) : readAt (forgetLog s) i = readAt s i := rfl

theorem endTurn_forgetLog (s : State) : endTurn (forgetLog s) = forgetLog (endTurn s) := by
  have hagent : agentOf (forgetLog s) = agentOf s := rfl
  rw [endTurn, endTurn, hagent]
  cases agentOf s <;> rfl

theorem lengthChecked_forgetLog (m : Nat) (p : List Byte) (w : Results → Results) (s : State) :
    lengthChecked m p w (forgetLog s) = forgetLog (lengthChecked m p w s) := by
  simp only [lengthChecked, apply_ite forgetLog]
  rfl

theorem decodeEffect_forgetLog (t : Byte) (p : List Byte) (s : State) :
    decodeEffect t p (forgetLog s) = forgetLog (decodeEffect t p s) := by
  by_cases ht : knownTypes.contains t = true
  · obtain ⟨g, rfl⟩ := exists_groupType_of_known ht
    rw [decodeEffect_groupType, decodeEffect_groupType, lengthChecked_forgetLog]
  · rw [Bool.not_eq_true] at ht
    rw [decodeEffect_of_unknown p _ ht, decodeEffect_of_unknown p _ ht]

theorem emitEvent_forgetLog (e : Event) (s : State) : emitEvent e (forgetLog s) = forgetLog (emitEvent e s) := by
  simp only [emitEvent, apply_ite forgetLog]
  rfl

theorem rejectCandidate_forgetLog (d : Dialect) (r : Reason) (s : State) :
    rejectCandidate d r (forgetLog s) = forgetLog (rejectCandidate d r s) :=
  congrArg (consumeBytes 1) (emitEvent_forgetLog _ (countRejected s))

theorem acceptFrame_forgetLog (s : State) : acceptFrame (forgetLog s) = forgetLog (acceptFrame s) := by
  have hcount : countValidated (forgetLog s) = forgetLog (countValidated s) := rfl
  rw [acceptFrame, hcount, emitEvent_forgetLog, decodeEffect_forgetLog]
  rfl

theorem acceptSbus_forgetLog (s : State) : acceptSbus (forgetLog s) = forgetLog (acceptSbus s) := by
  have hcount : countValidated (forgetLog s) = forgetLog (countValidated s) := rfl
  rw [acceptSbus_eq, acceptSbus_eq, hcount, emitEvent_forgetLog]
  rfl

theorem whenSelected_forgetLog (c : StepClass) {f : State → State} (hf : ∀ s, f (forgetLog s) = forgetLog (f s))
    (s : State) : whenSelected c (forgetLog s) (f (forgetLog s)) = forgetLog (whenSelected c s (f s)) := by
  rw [hf, whenSelected, whenSelected, apply_ite forgetLog]
  rfl

theorem pushByte_forgetLog (b : Byte) (s : State) : pushByte b (forgetLog s) = forgetLog (pushByte b s) := by
  rw [pushByte, pushByte, apply_ite forgetLog]
  rfl

theorem writeWord_forgetLog (index : BitVec 7) (d : Word) (s : State) :
    writeWord index d (forgetLog s) = forgetLog (writeWord index d s) := by
  rw [writeWord, writeWord, apply_ite forgetLog]
  rfl

/-- POP logs its answer, and otherwise does the same whatever was logged before. -/
theorem popEvent_forgetLog (s : State) : forgetLog (popEvent (forgetLog s)) = forgetLog (popEvent s) := by
  cases h : s.evq with
  | nil => rw [popEvent_of_nil h, popEvent_of_nil (s := forgetLog s) h]; rfl
  | cons e rest => rw [popEvent_of_cons h, popEvent_of_cons (s := forgetLog s) h]; rfl

/-- No operation depends on what was logged before it (log 2). -/
theorem perform_forgetLog (i : Instr) (s : State) : forgetLog (perform i (forgetLog s)) = forgetLog (perform i s) := by
  cases i with
  | decGps p | decVario p | decBattery p | decLinkstat p | decChannels p | decAttitude p | decFlightmode p =>
    exact forgetLog_congr (lengthChecked_forgetLog _ p _ s)
  | drop => exact forgetLog_congr (whenSelected_forgetLog .notSync (f := consumeBytes 1) (fun _ => rfl) s)
  | lenReject => exact forgetLog_congr (whenSelected_forgetLog .badLen (rejectCandidate_forgetLog _ _) s)
  | crcReject => exact forgetLog_congr (whenSelected_forgetLog .crcBad (rejectCandidate_forgetLog _ _) s)
  | emit => exact forgetLog_congr (whenSelected_forgetLog .crcOk acceptFrame_forgetLog s)
  | sbusAccept => exact forgetLog_congr (whenSelected_forgetLog .sbusOk acceptSbus_forgetLog s)
  | sbusReject => exact forgetLog_congr (whenSelected_forgetLog .sbusBad (rejectCandidate_forgetLog _ _) s)
  | push b => exact forgetLog_congr (pushByte_forgetLog b s)
  | write index d => exact forgetLog_congr (writeWord_forgetLog index d s)
  | pop => exact popEvent_forgetLog s
  | decUnknown | crc8Step | crc8 | unpack | usMap | read | reset => rfl

/-! ### Runs of steps -/

theorem runSteps_add (m n : Nat) (s : State) : runSteps (m + n) s = runSteps n (runSteps m s) := by
  induction m generalizing s with
  | zero => rw [Nat.zero_add, runSteps_zero]
  | succ m ih =>
    obtain ⟨t, ht⟩ := step_eq_next s
    rw [Nat.succ_add, runSteps_succ ht, runSteps_succ ht, ih]

theorem runSteps_one {s t : State} (h : step s = .next t) : runSteps 1 s = t := runSteps_succ h 0

/-- A step runs the same operation, if any, whatever was logged before. -/
theorem runSteps_one_forgetLog (s : State) : forgetLog (runSteps 1 (forgetLog s)) = forgetLog (runSteps 1 s) := by
  cases hf : fetch s with
  | none =>
    rw [runSteps_one (step_of_fetch_none hf), runSteps_one (step_of_fetch_none (s := forgetLog s) hf),
      forgetLog_congr (endTurn_forgetLog s)]
  | some c =>
    cases hd : decode c with
    | error e =>
      rw [runSteps_one (step_of_decode_error hf hd), runSteps_one (step_of_decode_error (s := forgetLog s) hf hd),
        forgetLog_congr (endTurn_forgetLog s)]
    | ok i =>
      have hstep := step_of_decode_ok hf hd
      have hstep' := step_of_decode_ok (s := forgetLog s) hf hd
      rw [exec_eq_next_perform] at hstep hstep'
      rw [runSteps_one hstep, runSteps_one hstep', endTurn_forgetLog, perform_forgetLog]

theorem runSteps_congr {s t : State} (h : forgetLog s = forgetLog t) (n : Nat) :
    forgetLog (runSteps n s) = forgetLog (runSteps n t) := by
  induction n generalizing s t with
  | zero => exact h
  | succ n ih =>
    have hone : forgetLog (runSteps 1 s) = forgetLog (runSteps 1 t) := by
      rw [← runSteps_one_forgetLog s, h, runSteps_one_forgetLog t]
    rw [Nat.add_comm, runSteps_add, runSteps_add, ih hone]

/-- What was answered before the steps makes no difference to a READ after them. -/
theorem readAt_runSteps_answer (n : Nat) (r : Response) (s : State) (i : Nat) :
    readAt (runSteps n (answer r s)) i = readAt (runSteps n s) i := by
  rw [← readAt_forgetLog, runSteps_congr (forgetLog_answer r s), readAt_forgetLog]

/-! ### READs one after another -/

theorem sum_take_succ (gaps : List Nat) (n : Nat) :
    (gaps.take (n + 1)).sum = gaps.headD 0 + (gaps.tail.take n).sum := by
  cases gaps with
  | nil => rw [List.take_nil, List.headD_nil, List.tail_nil, List.take_nil, List.sum_nil, Nat.add_zero]
  | cons k rest => rw [List.take_succ_cons, List.sum_cons, List.headD_cons, List.tail_cons]

/-- Each READ answers what its word holds after the steps before it (20_memory R62, 44_host_interface R205). -/
theorem readEach_eq_mapIdx (indices gaps : List Nat) (s : State) :
    (readEach indices gaps s).1 = indices.mapIdx fun j i => readAt (runSteps (gaps.take (j + 1)).sum s) i := by
  induction indices generalizing gaps s with
  | nil => rfl
  | cons i rest ih =>
    rw [readEach_cons, ih, List.mapIdx_cons]
    simp only [readAt_runSteps_answer, sum_take_succ gaps, ← runSteps_add, List.take_zero, List.sum_nil, Nat.add_zero]

/-- READs after an answer answer what they would without it. -/
theorem readEach_answer (indices gaps : List Nat) (r : Response) (s : State) :
    (readEach indices gaps (answer r s)).1 = (readEach indices gaps s).1 := by
  simp only [readEach_eq_mapIdx, readAt_runSteps_answer]

theorem readEach_concat (indices gaps : List Nat) (i : Nat) (s : State) :
    (readEach (indices ++ [i]) gaps s).1 =
      (readEach indices gaps s).1 ++ [readAt (runSteps (gaps.take (indices.length + 1)).sum s) i] := by
  rw [readEach_eq_mapIdx, readEach_eq_mapIdx, List.mapIdx_append_one]

/-! ### The words of a group -/

theorem readAt_seqIndex (g : ResultGroup) (s : State) : readAt s (seqIndex g) = seqOf g s.results.seq := by
  rcases g with _ | k
  · rfl
  · cases k <;> rfl

theorem readAt_eq_fieldWord (s : State) {i : Nat} (hmin : 32 ≤ i) (hmax : i < 128) :
    readAt s i = fieldWord s.results i := by
  have hindex : (BitVec.ofNat 7 i).toNat = i := by rw [BitVec.toNat_ofNat]; omega
  rw [readAt, readWord_eq_fieldWord s (by omega), hindex]

/-- A kind's words depend on its record alone (20_memory R68). -/
theorem readAt_kindWords {k : Kind} {s t : State} (h : Spec.sameRecord (.telemetry k) s.results t.results) {i : Nat}
    (hi : i ∈ kindWords k) : readAt t i = readAt s i := by
  cases k with
  | linkStat | attitude | battery | gps | vario =>
    simp only [Spec.sameRecord] at h
    fin_cases hi <;> simp [readAt_eq_fieldWord, fieldWord, h]
  | flightMode =>
    simp only [Spec.sameRecord] at h
    obtain ⟨j, hj, rfl⟩ := List.mem_map.mp hi
    rw [List.mem_range] at hj
    cases j with
    | zero => simp [readAt_eq_fieldWord, fieldWord, h]
    | succ j =>
      rw [Nat.add_comm j 1, ← Nat.add_assoc, readAt_fmStr s (Nat.lt_of_succ_lt_succ hj),
        readAt_fmStr t (Nat.lt_of_succ_lt_succ hj), h]

/-- A group's words depend on its registers alone (20_memory R68). -/
theorem readAt_groupWords {g : ResultGroup} {s t : State} (h : Spec.sameRecord g s.results t.results) {i : Nat}
    (hi : i ∈ groupWords g) : readAt t i = readAt s i := by
  rcases g with _ | k
  · obtain ⟨j, hj, rfl⟩ := List.mem_map.mp hi
    rw [List.mem_range] at hj
    rw [readAt_channel s hj, readAt_channel t hj, show t.results.chRaw = s.results.chRaw from h]
  · exact readAt_kindWords h hi

theorem sameRecord_of_recordAtReset {k : Kind} {r : Results} (h : recordAtReset k r) :
    Spec.sameRecord (.telemetry k) resetResults r := by
  cases k <;> exact h

theorem readAt_reset_kindWords : ∀ k, ∀ i ∈ kindWords k, readAt State.reset i = 0#32 := by
  intro k
  cases k <;> decide +kernel

/-! ### `current_telemetry` -/

/-- REC_VALID as READ answers it has each kind's bit (30_encoding R102). -/
theorem readAt_recValid_getLsbD (s : State) (k : Kind) :
    (readAt s 6).getLsbD (kindBit k) = s.results.recValid.getLsbD (kindBit k) := by
  have hword : readAt s 6 = s.results.recValid.setWidth 32 := rfl
  have hbit : kindBit k < 32 := by cases k <;> decide
  rw [hword, BitVec.getLsbD_setWidth, decide_eq_true hbit, Bool.true_and]

section
variable {k : Kind} {gaps : List Nat} {s : State}

theorem currentTelemetry_of_invalid
    (h : (runSteps (gaps.headD 0) s).results.recValid.getLsbD (kindBit k) = false) :
    (currentTelemetry k gaps s).1 = none := by
  rw [← readAt_recValid_getLsbD] at h
  exact congrArg Prod.fst (if_neg (Bool.eq_false_iff.mp h))

theorem currentTelemetry_of_valid
    (h : (runSteps (gaps.headD 0) s).results.recValid.getLsbD (kindBit k) = true) :
    (currentTelemetry k gaps s).1 = some (readEach (kindWords k) gaps.tail
      (answer (.data (readAt (runSteps (gaps.headD 0) s) 6)) (runSteps (gaps.headD 0) s))).1 := by
  rw [← readAt_recValid_getLsbD] at h
  exact congrArg Prod.fst (if_pos h)

end

/-! ### How often a run commits a group -/

/-- The group's counter gained `n`, and with no commit its registers are the same (10_state R39). -/
def CommittedTimes (n : Nat) (g : ResultGroup) (r r' : Results) : Prop :=
  seqOf g r'.seq = seqOf g r.seq + BitVec.ofNat 32 n ∧ (n = 0 → Spec.sameRecord g r r')

theorem CommittedTimes.refl (g : ResultGroup) (r : Results) : CommittedTimes 0 g r r :=
  ⟨(BitVec.add_zero _).symm, fun _ => sameRecord_refl g r⟩

theorem CommittedTimes.trans {m n : Nat} {g : ResultGroup} {r r' r'' : Results} (h : CommittedTimes m g r r')
    (h' : CommittedTimes n g r' r'') : CommittedTimes (m + n) g r r'' := by
  obtain ⟨hseq, hsame⟩ := h
  obtain ⟨hseq', hsame'⟩ := h'
  refine ⟨by rw [hseq', hseq, BitVec.ofNat_add, BitVec.add_assoc], fun hzero => ?_⟩
  obtain ⟨hm, hn⟩ := Nat.add_eq_zero_iff.mp hzero
  exact sameRecord_trans (hsame hm) (hsame' hn)

theorem CommitsAmong.committedTimes {gs : List ResultGroup} {r r' : Results} (h : CommitsAmong gs r r')
    (g : ResultGroup) : ∃ n, n ≤ 1 ∧ CommittedTimes n g r r' := by
  rcases h g with ⟨hseq, hsame, -⟩ | ⟨-, hseq, -⟩
  · exact ⟨0, Nat.zero_le 1, by rw [hseq, BitVec.add_zero], fun _ => hsame⟩
  · exact ⟨1, Nat.le_refl 1, hseq, nofun⟩

/-- Fewer than `2^32` commits that leave the counter as it was are none. -/
theorem CommittedTimes.eq_zero {n : Nat} {g : ResultGroup} {r r' : Results} (h : CommittedTimes n g r r')
    (hn : n < 2 ^ 32) (hseq : seqOf g r'.seq = seqOf g r.seq) : n = 0 := by
  obtain ⟨hgain, -⟩ := h
  rw [hseq, left_eq_add] at hgain
  have hzero := congrArg BitVec.toNat hgain
  rwa [BitVec.toNat_ofNat, Nat.mod_eq_of_lt hn] at hzero

/-- Only a request of the host is decoded to RESET (30_encoding R107). -/
theorem reset_mem_requests {s : State} {c : Code} (hf : fetch s = some c) (hd : decode c = .ok .reset) :
    Request.reset ∈ s.requests := by
  cases ha : agentOf s with
  | engine =>
    rw [fetch_of_engine ha] at hf
    obtain rfl := Option.some.inj hf
    exact absurd rfl (ne_pop_reset_of_decodeStep hd).2
  | byteSource =>
    rw [fetch_of_byteSource ha] at hf
    obtain ⟨b, -, rfl⟩ := Option.map_eq_some_iff.mp hf
    nomatch hd
  | eventConsumer =>
    rw [fetch_of_eventConsumer ha] at hf
    obtain rfl := Option.some.inj hf
    nomatch hd
  | host =>
    rw [fetch_of_host ha] at hf
    obtain ⟨r, hr, rfl⟩ := Option.map_eq_some_iff.mp hf
    cases r with
    | reset => exact List.mem_of_head? hr
    | read | write => nomatch hd

theorem endTurn_requests_subset (s : State) : (endTurn s).requests ⊆ s.requests := by
  cases ha : agentOf s with
  | engine => rw [endTurn_of_engine ha]; exact List.Subset.refl _
  | byteSource => rw [endTurn_of_byteSource ha]; exact List.Subset.refl _
  | eventConsumer => rw [endTurn_of_eventConsumer ha]; exact List.Subset.refl _
  | host => rw [endTurn_of_host ha]; exact List.tail_subset _

/-- A step with no RESET among the host's requests commits each group at most once, and leaves none among
them. -/
theorem runSteps_one_commits {s : State} (hr : Request.reset ∉ s.requests) (g : ResultGroup) :
    Request.reset ∉ (runSteps 1 s).requests ∧
      ∃ n, n ≤ 1 ∧ CommittedTimes n g s.results (runSteps 1 s).results := by
  have hend : Request.reset ∉ (endTurn s).requests := fun h => hr (endTurn_requests_subset s h)
  rcases step_cases s with h | ⟨c, i, hf, hd, h⟩ <;> rw [runSteps_one h]
  · exact ⟨hend, 0, Nat.zero_le 1, endTurn_results s ▸ .refl g s.results⟩
  · have he := effect_perform i (endTurn s)
    have hi : i ≠ .reset := fun hi => hr (reset_mem_requests hf (hi ▸ hd))
    obtain ⟨-, -, hrequests⟩ := he.environment_eq
    obtain ⟨gs, hcommits⟩ := he.commitsAmong hi
    rw [endTurn_results] at hcommits
    exact ⟨hrequests ▸ hend, hcommits.committedTimes g⟩

/-- A run commits each group at most once a step (10_state R39). -/
theorem runSteps_commits {s : State} (hr : Request.reset ∉ s.requests) (g : ResultGroup) (k : Nat) :
    Request.reset ∉ (runSteps k s).requests ∧
      ∃ n, n ≤ k ∧ CommittedTimes n g s.results (runSteps k s).results := by
  induction k with
  | zero => exact ⟨hr, 0, Nat.le_refl 0, .refl g s.results⟩
  | succ k ih =>
    obtain ⟨hrk, m, hm, hrun⟩ := ih
    obtain ⟨hrk', n, hn, hstep⟩ := runSteps_one_commits hrk g
    rw [runSteps_add]
    exact ⟨hrk', m + n, Nat.add_le_add hm hn, hrun.trans hstep⟩

/-- A counter that fewer than `2^32` steps leave as it was shows that none of them wrote its group's registers
(20_memory R70). -/
theorem sameRecord_of_seq_eq {s : State} {g : ResultGroup} (hr : Request.reset ∉ s.requests) {m n : Nat}
    (hlt : m + n < 2 ^ 32) (hseq : seqOf g (runSteps (m + n) s).results.seq = seqOf g s.results.seq) :
    Spec.sameRecord g s.results (runSteps m s).results := by
  obtain ⟨hrm, a, ha, hfirst⟩ := runSteps_commits hr g m
  obtain ⟨-, b, hb, hlast⟩ := runSteps_commits hrm g n
  rw [runSteps_add] at hseq
  have hnone : a + b = 0 := (hfirst.trans hlast).eq_zero (by omega) hseq
  obtain ⟨-, hsame⟩ := hfirst
  exact hsame (by omega)

/-! ### The SEQ protocol -/

/-- The answers that the protocol compares and gives, from the state of its first READ (20_memory R70). -/
theorem readEach_protocol (g : ResultGroup) (gaps : List Nat) (s : State) :
    (readEach (seqIndex g :: (groupWords g ++ [seqIndex g])) gaps s).1 =
      seqOf g (runSteps (gaps.headD 0) s).results.seq ::
        ((readEach (groupWords g) gaps.tail (runSteps (gaps.headD 0) s)).1 ++
          [seqOf g (runSteps (gaps.tail.take ((groupWords g).length + 1)).sum
            (runSteps (gaps.headD 0) s)).results.seq]) := by
  rw [readEach_cons, readEach_answer, readEach_concat, readAt_seqIndex, readAt_seqIndex]

/-- The words that the protocol answers, and what it knows of the counter then. -/
theorem consistentRead_eq_some {g : ResultGroup} {gaps : List Nat} {s : State} {words : List Word}
    (h : (consistentRead g gaps s).1 = some words) :
    words = (readEach (groupWords g) gaps.tail (runSteps (gaps.headD 0) s)).1 ∧
      seqOf g (runSteps (gaps.tail.take ((groupWords g).length + 1)).sum (runSteps (gaps.headD 0) s)).results.seq =
        seqOf g (runSteps (gaps.headD 0) s).results.seq := by
  rcases consistentRead_cases g gaps s (readEach_protocol g gaps s) with ⟨hsame, hwords⟩ | ⟨-, hnone⟩
  · rw [List.head?_cons, ← List.cons_append, List.getLast?_concat, Option.some.injEq] at hsame
    rw [hwords, List.tail_cons, List.dropLast_concat, Option.some.injEq] at h
    exact ⟨h.symm, hsame.symm⟩
  · exact nomatch hnone.symm.trans h

/-- The steps before one READ are among those before a later one. -/
theorem exists_sum_take_add (gaps : List Nat) {m n : Nat} (h : m ≤ n) :
    ∃ more, (gaps.take m).sum + more = (gaps.take n).sum := by
  refine ⟨((gaps.take n).drop m).sum, ?_⟩
  rw [← List.sum_append, ← Nat.min_eq_left h, ← List.take_take, Nat.min_eq_left h, List.take_append_drop]

/-- READs between two equal readings of the group's counter all see the registers of the first. -/
theorem readEach_groupWords_of_seq_eq {g : ResultGroup} {gaps : List Nat} {s : State}
    (hr : Request.reset ∉ s.requests) (hlt : (gaps.take ((groupWords g).length + 1)).sum < 2 ^ 32)
    (hseq : seqOf g (runSteps (gaps.take ((groupWords g).length + 1)).sum s).results.seq = seqOf g s.results.seq) :
    (readEach (groupWords g) gaps s).1 = (groupWords g).map (readAt s) := by
  rw [readEach_eq_mapIdx]
  refine List.ext_getElem (by simp) fun j hj _ => ?_
  rw [List.length_mapIdx] at hj
  obtain ⟨more, hmore⟩ := exists_sum_take_add gaps (Nat.succ_le_succ (Nat.le_of_lt hj))
  rw [← hmore] at hlt hseq
  rw [List.getElem_mapIdx, List.getElem_map]
  exact readAt_groupWords (sameRecord_of_seq_eq hr hlt hseq) (List.getElem_mem hj)

end Sys2Proof.Machine

namespace Sys2Proof.Spec

open Sys2Proof.Machine

/-- Settles O50, by the two forms of the queue. -/
theorem popAnswersTheOldestRecord : Obligations.PopAnswersTheOldestRecord := by
  unfold Obligations.PopAnswersTheOldestRecord
  intro s
  rw [exec_eq_next_perform, perform_pop]
  exact ⟨fun e rest h => by rw [popEvent_of_cons h, answer], fun h => by rw [popEvent_of_nil h]⟩

/-- Settles O53: each READ sees the state of its own place; a kind without a record is as reset left it; and a counter
that is the same at both readings shows that no step between them wrote the group. -/
theorem telemetryIsNoneExactlyWithoutARecord : Obligations.TelemetryIsNoneExactlyWithoutARecord := by
  unfold Obligations.TelemetryIsNoneExactlyWithoutARecord
  refine ⟨fun indices gaps s j hj => ?reads, ?telemetry, fun g gaps s words hr hgaps hread => ?protocol⟩
  case reads =>
    rw [readEach_eq_mapIdx, List.getElem?_mapIdx, List.getElem?_eq_getElem hj, List.getD_eq_getElem _ _ hj]
    rfl
  case telemetry =>
    rintro k gaps s _ rfl
    refine ⟨currentTelemetry_of_invalid, currentTelemetry_of_valid, fun hinv hinvalid i hi => ?_⟩
    obtain ⟨hreset, -⟩ := hinv.noRecord k hinvalid
    rw [readAt_kindWords (s := State.reset) (sameRecord_of_recordAtReset hreset) hi, readAt_reset_kindWords k i hi]
  case protocol =>
    obtain ⟨rfl, hseq⟩ := consistentRead_eq_some hread
    obtain ⟨hr', -⟩ := runSteps_commits hr g (gaps.headD 0)
    have hsteps : (gaps.tail.take ((groupWords g).length + 1)).Sublist gaps :=
      (List.take_sublist _ _).trans (List.tail_sublist gaps)
    have hsum := hsteps.sum_le_sum fun _ _ => Nat.zero_le _
    exact readEach_groupWords_of_seq_eq hr' (Nat.lt_of_le_of_lt hsum hgaps) hseq

end Sys2Proof.Spec

/-! # Proofs for 60_exceptions

The three counters that signals and acceptances feed (O36): `Counts` relates the states before and after an effect by
what was signalled and whether a frame was accepted, and every operation but RESET stands in it. -/

namespace Sys2Proof.Machine

/-- The operation accepts a frame: it is EMIT or SBUS_ACCEPT, selected and not held (42_synchronizer R147, R148). -/
def accepts (i : Instr) (s : State) : Bool :=
  match i with
  | .emit => decide (classOf s = .crcOk ∧ held s = false)
  | .sbusAccept => decide (classOf s = .sbusOk ∧ held s = false)
  | _ => false

theorem accepts_iff (i : Instr) (s : State) :
    accepts i s = true ↔
      held s = false ∧ ((i = .emit ∧ classOf s = .crcOk) ∨ (i = .sbusAccept ∧ classOf s = .sbusOk)) := by
  cases i <;> simp [accepts, and_comm]

/-- What the error `e`, if any, and the acceptance of a frame, if `accepted`, do to the counters from `s` to `t`
(60_exceptions R220, 10_state R30). -/
structure Counts (e : Option ErrorKind) (accepted : Bool) (s t : State) : Prop where
  framesRejected : t.framesRejected =
    if e = some .malformedLength ∨ e = some .crcMismatch then satInc s.framesRejected else s.framesRejected
  payloadTooShort : t.payloadTooShort =
    if e = some .payloadTooShort then satInc s.payloadTooShort else s.payloadTooShort
  framesValidated : t.framesValidated = if accepted = true then satInc s.framesValidated else s.framesValidated

section
variable {s t : State}

/-- The counters stay where nothing is signalled, or an error that has no counter. -/
theorem Counts.of_unchanged {e : Option ErrorKind}
    (he : e = none ∨ e = some .insufficientData ∨ e = some .unknownFrameType)
    (hvalidated : t.framesValidated = s.framesValidated) (hrejected : t.framesRejected = s.framesRejected)
    (hshort : t.payloadTooShort = s.payloadTooShort) : Counts e false s t := by
  rcases he with rfl | rfl | rfl <;> exact ⟨hrejected, hshort, hvalidated⟩

/-- DECODE counts a short payload exactly when it signals one (43_decoders R171, R179). -/
theorem decodeEffect_counts (t : Byte) (p : List Byte) (s : State) :
    Counts (decoderSignal t p) false s (decodeEffect t p s) := by
  by_cases hknown : knownTypes.contains t = true
  · obtain ⟨g, rfl⟩ := exists_groupType_of_known hknown
    rw [decodeEffect_groupType, decoderSignal, if_pos hknown]
    by_cases hshort : p.length < minPayload (Spec.groupType g) <;> constructor <;> simp [hshort]
  · rw [decodeEffect_of_unknown p s (Bool.eq_false_iff.mpr hknown), decoderSignal, if_neg hknown]
    exact .of_unchanged (.inr (.inr rfl)) rfl rfl rfl

theorem consumeBytes_counts (n : Nat) (s : State) : Counts none false s (consumeBytes n s) :=
  .of_unchanged (.inl rfl) rfl rfl rfl

theorem rejectCandidate_counts {e : ErrorKind} (he : e = .malformedLength ∨ e = .crcMismatch) (d : Dialect) (r : Reason)
    (s : State) : Counts (some e) false s (rejectCandidate d r s) := by
  rcases he with rfl | rfl <;> constructor <;> simp

/-- EMIT counts its frame, and its decoder counts what it signals. -/
theorem acceptFrame_counts (s : State) :
    Counts (decoderSignal (candidateType s) (candidatePayload s)) true s (acceptFrame s) := by
  obtain ⟨hrejected, hshort, -⟩ := decodeEffect_counts (candidateType s) (candidatePayload s)
    (emitEvent (crsfAccepted (candidateType s) (candidatePayload s)) (countValidated s))
  exact ⟨by simpa [acceptFrame] using hrejected, by simpa [acceptFrame] using hshort,
    by simp [acceptFrame]⟩

theorem acceptSbus_counts (s : State) : Counts none true s (acceptSbus s) := by
  constructor <;> simp [acceptSbus]

/-- A step that its guard does not let through signals, accepts and counts nothing (00_scope R16). -/
theorem whenSelected_counts {c : StepClass} {e : Option ErrorKind} {accepted : Bool} (h : Counts e accepted s t) :
    Counts (signalWhenSelected c s e) (accepted && decide (classOf s = c ∧ held s = false)) s (whenSelected c s t) := by
  by_cases hsel : classOf s = c ∧ held s = false
  · rwa [signalWhenSelected, whenSelected, if_pos hsel, if_pos hsel, decide_eq_true hsel, Bool.and_true]
  · rw [signalWhenSelected, whenSelected, if_neg hsel, if_neg hsel, decide_eq_false hsel, Bool.and_false]
    exact .of_unchanged (.inl rfl) rfl rfl rfl

end

theorem signalWhenSelected_none (c : StepClass) (s : State) : signalWhenSelected c s none = none := ite_self none

/-- Of the transactions and primitives only UNPACK signals, InsufficientData, which has no counter. -/
theorem signals_of_isHostOrPrimitive {i : Instr} (hi : Spec.isHostOrPrimitive i = true) (s : State) :
    signals i s = none ∨ signals i s = some .insufficientData ∨ signals i s = some .unknownFrameType := by
  cases i with
  | unpack p => by_cases h : p.length < Config.chBytes <;> simp [signals, h]
  | crc8Step _ _ | crc8 _ | usMap _ | push _ | read _ | write _ _ | pop => exact .inl rfl
  | _ => nomatch hi

theorem accepts_of_isHostOrPrimitive {i : Instr} (hi : Spec.isHostOrPrimitive i = true) (s : State) :
    accepts i s = false := by
  cases i with
  | emit | sbusAccept => nomatch hi
  | _ => rfl

theorem perform_counts_of_isHostOrPrimitive {i : Instr} (hi : Spec.isHostOrPrimitive i = true) (s : State) :
    Counts (signals i s) (accepts i s) s (perform i s) := by
  obtain ⟨hvalidated, hrejected, -, hshort⟩ := (effect_perform i s).counters_eq hi
  rw [accepts_of_isHostOrPrimitive hi]
  exact .of_unchanged (signals_of_isHostOrPrimitive hi s) hvalidated hrejected hshort

/-- Every operation but RESET counts what it signals and accepts. -/
theorem perform_counts {i : Instr} (hr : i ≠ .reset) (s : State) :
    Counts (signals i s) (accepts i s) s (perform i s) := by
  cases i with
  | decGps p => exact decodeEffect_counts 0x02#8 p s
  | decVario p => exact decodeEffect_counts 0x07#8 p s
  | decBattery p => exact decodeEffect_counts 0x08#8 p s
  | decLinkstat p => exact decodeEffect_counts 0x14#8 p s
  | decChannels p => exact decodeEffect_counts 0x16#8 p s
  | decAttitude p => exact decodeEffect_counts 0x1E#8 p s
  | decFlightmode p => exact decodeEffect_counts 0x21#8 p s
  | decUnknown t p => exact .of_unchanged (.inr (.inr rfl)) rfl rfl rfl
  | drop =>
    rw [signals, ← signalWhenSelected_none .notSync s]
    exact whenSelected_counts (consumeBytes_counts 1 s)
  | lenReject => exact whenSelected_counts (rejectCandidate_counts (.inl rfl) _ _ s)
  | crcReject => exact whenSelected_counts (rejectCandidate_counts (.inr rfl) _ _ s)
  | emit => exact whenSelected_counts (acceptFrame_counts s)
  | sbusAccept =>
    rw [signals, ← signalWhenSelected_none .sbusOk s]
    exact whenSelected_counts (acceptSbus_counts s)
  | sbusReject => exact whenSelected_counts (rejectCandidate_counts (.inl rfl) _ _ s)
  | crc8Step _ _ | crc8 _ | unpack _ | usMap _ | push _ | read _ | write _ _ | pop =>
    exact perform_counts_of_isHostOrPrimitive rfl s
  | reset => exact absurd rfl hr

end Sys2Proof.Machine

namespace Sys2Proof.Spec

open Sys2Proof.Machine

/-- Settles O36, by what each operation's effect counts. -/
theorem signalsAreWhatTheCountersCount : Obligations.SignalsAreWhatTheCountersCount := by
  unfold Obligations.SignalsAreWhatTheCountersCount
  intro i s t hr hexec
  obtain rfl := Host.Outcome.next.inj ((exec_eq_next_perform i s).symm.trans hexec)
  obtain ⟨hrejected, hshort, hvalidated⟩ := perform_counts hr s
  simp only [accepts_iff] at hvalidated
  simp only [hrejected, hshort, hvalidated, apply_ite BitVec.toNat, satInc_toNat_eq_sat, and_self]

end Sys2Proof.Spec

/-! # Proofs for 70_reset_and_hazards

The held engine without a consumer (O57). While it is held, the step its class selects is refused and so is a byte,
so a turn of the engine or of the byte source only passes; a run of such turns uses up the schedule and changes nothing
else. -/

namespace Sys2Proof.Machine

section
variable {s : State}

/-- The step that a class selects is one of the engine's (30_encoding R111). -/
theorem mem_engineSteps_of_decodeStep {c : StepClass} {i : Instr} (h : decodeStep c = .ok i) :
    i ∈ Spec.engineSteps := by
  cases c
  case waitSync | waitLen | waitBody => nomatch h
  all_goals cases h; simp [Spec.engineSteps]

theorem held_of_full (hev : s.ctrl.evEn = true) (hfull : s.evq.length = s.params.evDepth)
    (hc : emits (classOf s) = true) : held s = true := by
  rw [held, hc, evqBlocks_of_full hev hfull, Bool.and_self]

/-- A held engine has a candidate to resolve, so `in_ready` is 0 (42_synchronizer R150, R161). -/
theorem not_quiescent_of_held (hh : held s = true) : quiescent s = false :=
  not_isWaiting_of_emits (Bool.and_eq_true_iff.mp hh).1

theorem perform_of_held {i : Instr} (hi : i ∈ Spec.engineSteps) (hh : held s = true) : perform i s = s :=
  (engineStep_selected_or_idle hi s).resolve_left fun ⟨_, hfree⟩ => Bool.false_ne_true (hfree.symm.trans hh)

/-- While the engine is held, a turn of the engine or of the byte source only passes: the engine's step is refused, and
so is the byte (42_synchronizer R150, R161). -/
theorem step_of_held (hh : held s = true) (ha : agentOf s = .engine ∨ agentOf s = .byteSource) :
    step s = .next (endTurn s) := by
  have hq := not_quiescent_of_held hh
  rcases ha with ha | ha
  · obtain ⟨i, hd⟩ := exists_selected_of_not_isWaiting hq
    rw [step_of_decode_ok (fetch_of_engine ha) hd, exec_eq_next_perform,
      perform_of_held (mem_engineSteps_of_decodeStep hd) ((held_endTurn s).trans hh)]
  · cases hb : s.source with
    | nil => exact step_of_byteSource_idle ha hb
    | cons b more =>
      rw [step_of_byteSource_byte ha hb, exec_eq_next_perform, perform_push,
        pushByte_of_not_quiescent b ((quiescent_endTurn s).trans hq)]

/-- The byte source keeps its byte while the engine is held (42_synchronizer R160). -/
theorem endTurn_of_held (hh : held s = true) (ha : agentOf s = .engine ∨ agentOf s = .byteSource) :
    endTurn s = { s with sched := s.sched.tail } := by
  rcases ha with ha | ha
  · exact endTurn_of_engine ha
  · rw [endTurn_of_byteSource ha, if_neg (Bool.eq_false_iff.mp (not_quiescent_of_held hh))]

/-- With nobody scheduled the turn is the engine's, so it is one of the two agents' when they alone are scheduled. -/
theorem agentOf_eq_of_sched_subset (hs : ∀ a ∈ s.sched, a = .engine ∨ a = .byteSource) :
    agentOf s = .engine ∨ agentOf s = .byteSource := by
  cases hsched : s.sched with
  | nil => exact .inl (agentOf_of_sched_nil hsched)
  | cons a rest => rw [agentOf_of_sched_cons hsched]; exact hs a (hsched ▸ List.mem_cons_self)

end

/-- A run of turns of the engine and the byte source behind a hold uses up the schedule and changes nothing else
(70_reset_and_hazards R244). -/
theorem runSteps_of_held (k : Nat) {s : State} (hh : held s = true)
    (hs : ∀ a ∈ s.sched, a = .engine ∨ a = .byteSource) : runSteps k s = { s with sched := s.sched.drop k } := by
  induction k generalizing s with
  | zero => rfl
  | succ k ih =>
    have ha := agentOf_eq_of_sched_subset hs
    have hrest : ∀ a ∈ (endTurn s).sched, a = .engine ∨ a = .byteSource := fun a h =>
      hs a (List.mem_of_mem_tail (endTurn_sched s ▸ h))
    rw [runSteps_succ (step_of_held hh ha), ih ((held_endTurn s).trans hh) hrest, endTurn_of_held hh ha, List.drop_tail]

end Sys2Proof.Machine

namespace Sys2Proof.Spec

open Sys2Proof.Machine

/-- Settles O57: the hold stands as long as the run lasts, which changes the schedule alone. -/
theorem withoutAConsumerAHeldEngineHangs : Obligations.WithoutAConsumerAHeldEngineHangs := by
  unfold Obligations.WithoutAConsumerAHeldEngineHangs
  intro k s hev hfull hc hs
  rw [runSteps_of_held k (held_of_full hev hfull hc) hs]
  exact ⟨⟨rfl, rfl, rfl, rfl, rfl, rfl, rfl, rfl⟩, rfl⟩

end Sys2Proof.Spec

/-! # Proofs for 42_synchronizer and 70_reset_and_hazards: the S.Bus steps and RESET

The two steps of a complete S.Bus candidate (O27), whose class the open predicate decides alone, and RESET: the values
it leaves in the elements and in the register window (O52), and the invariant after it (O58). -/

namespace Sys2Proof.Machine

/-! ### A complete S.Bus candidate -/

section
variable {s : State} {fr rest : List Byte}

/-- Outside a hold the class of the buffer alone decides whether a step has its effect. -/
theorem whenSelected_of_not_held (hh : held s = false) (c : StepClass) (e : State) :
    whenSelected c s e = if classOf s = c then e else s := by
  simp only [whenSelected, hh, and_true]

/-- The class of a complete S.Bus candidate is the open predicate's verdict (42_synchronizer R140). -/
theorem classOf_of_sbusCandidate (hon : Spec.sbusEnabled s) (hbuf : s.buf = fr ++ rest) (hlen : fr.length = 25)
    (hhead : fr.head? = some 0x0F#8) : classOf s = if Config.sbusValid fr = true then .sbusOk else .sbusBad := by
  rw [classOf, (sbusOn_iff s).mpr hon, hbuf, classify_sbusCandidate rest hlen hhead]

theorem sbusFrame_of_append (hbuf : s.buf = fr ++ rest) (hlen : fr.length = 25) : sbusFrame s = fr := by
  rw [sbusFrame, hbuf]
  exact List.take_left' hlen

/-- All that SBUS_ACCEPT does on a complete candidate (42_synchronizer R148). -/
theorem acceptSbus_of_append (hbuf : s.buf = fr ++ rest) (hlen : fr.length = 25) :
    acceptSbus s = { s with
      buf := rest
      evq := Spec.queued s (sbusAccepted fr)
      framesValidated := satInc s.framesValidated
      bytesConsumed := satAdd s.bytesConsumed 25
      results := applySbusWrites (Config.sbusWrites fr s.results) s.results } := by
  have hdrop : s.buf.drop 25 = rest := by rw [hbuf, List.drop_left' hlen]
  rw [acceptSbus_eq, sbusFrame_of_append hbuf hlen]
  unfold Spec.queued
  cases h : s.ctrl.evEn <;>
    simp [consumeBytes, memConsume, setResults, emitEvent, countValidated, Config.sbusFrameLen, h, hdrop]

end

/-! ### RESET -/

section
variable {s : State}

/-- RESET clears `SBUS_EN`, so S.Bus is off after it on every instance (10_state R41). -/
theorem sbusOn_resetBlock (s : State) : sbusOn (resetBlock s) = false := Bool.and_false _

/-- The empty queue is not full, as `EV_DEPTH` is at least 1 (00_scope R9). -/
theorem evFull_resetBlock (hp : s.params.wf = true) : evFull (resetBlock s) = false := by
  obtain ⟨hmin, -⟩ := of_decide_eq_true hp
  have hempty : (resetBlock s).evq.length = 0 := rfl
  rw [Bool.eq_false_iff, ne_eq, evFull_iff, resetBlock_params, hempty]
  exact Nat.ne_of_lt hmin

theorem ctrlWord_resetBlock (s : State) : ctrlWord (resetBlock s) = ctrlWord State.reset := by
  rw [ctrlWord, sbusOn_resetBlock]
  rfl

theorem statusWord_resetBlock (hp : s.params.wf = true) : statusWord (resetBlock s) = statusWord State.reset := by
  rw [statusWord, evFull_resetBlock hp]
  rfl

/-- Every legal instance reads the same window after RESET: the parameters enter into no word but CTRL and STATUS. -/
theorem readAt_resetBlock (hp : s.params.wf = true) (i : Nat) : readAt (resetBlock s) i = readAt State.reset i := by
  rw [readAt, readWord, ctrlWord_resetBlock, statusWord_resetBlock hp]
  rfl

/-- The window of the reset state (20_memory R68, 10_state R41). -/
theorem readAt_reset : ∀ i < 128, readAt State.reset i =
    if i = 0 then 1#32 else if i = 1 then 8#32 else if 16 ≤ i ∧ i ≤ 31 then 0x05DC0400#32 else 0#32 := by
  decide +kernel

end

end Sys2Proof.Machine

namespace Sys2Proof.Spec

open Sys2Proof.Machine

/-- Settles O27: outside a hold each of the two steps has its effect exactly on its own verdict, and both effects are
known field by field. -/
theorem sbusCandidateIsAcceptedOrRejected : Obligations.SbusCandidateIsAcceptedOrRejected := by
  unfold Obligations.SbusCandidateIsAcceptedOrRejected
  intro s fr rest hon hbuf hlen hhead hroom
  have hc := classOf_of_sbusCandidate hon hbuf hlen hhead
  have hh := not_held_of_room hroom
  obtain ⟨tail, rfl⟩ := List.head?_eq_some_iff.mp hhead
  have haccept := acceptSbus_of_append hbuf hlen
  have hreject := rejectCandidate_eq hbuf .sbus .malformedLength
  refine ⟨acceptSbus s, rejectCandidate .sbus .malformedLength s, ?accept, ?reject, ?_⟩
  case accept =>
    rw [exec_eq_next_perform, perform_sbusAccept, whenSelected_of_not_held hh, hc]
    split <;> rfl
  case reject =>
    rw [exec_eq_next_perform, perform_sbusReject, whenSelected_of_not_held hh, hc]
    split <;> rfl
  rw [haccept, hreject]
  exact ⟨satInc_toNat_eq_sat s.framesValidated, satAdd_toNat_eq_sat s.bytesConsumed 25, rfl,
    satInc_toNat_eq_sat s.framesRejected, satAdd_toNat_eq_sat s.bytesConsumed 1, rfl⟩

/-- Settles O52: the elements have their values of 10_state R41, and the window is that of the reset state. -/
theorem resetPutsEveryElementAtItsValue : Obligations.ResetPutsEveryElementAtItsValue := by
  unfold Obligations.ResetPutsEveryElementAtItsValue
  intro s hp
  refine ⟨resetBlock s, rfl, rfl, rfl, rfl, rfl, quiescent_of_buf_eq_nil rfl, fun k hk => ?channels,
    fun i hi => ?window, rfl, rfl, rfl, rfl, rfl⟩
  case channels => exact Vector.getElem_replicate hk
  case window => rw [readAt_resetBlock hp, readAt_reset i hi]

/-- Settles O58: the default instance is legal, and RESET leaves the reset state as it is. -/
theorem resetSatisfiesTheInvariant : Obligations.ResetSatisfiesTheInvariant := by
  unfold Obligations.ResetSatisfiesTheInvariant
  have hdefault : State.reset.params.wf = true := by decide
  exact resetBlock_stateInv hdefault

end Sys2Proof.Spec
